-- ==== Sys2Proof/Word.lean ====
section
/-! DEFINITION. The words of the BSFD: what the spec writes as uN, and nothing else. -/

namespace Sys2Proof

/-- One 8-bit unit, chip or payload byte (R28, R60). An unpacked bit is a byte of value 0 or 1. -/
abbrev Byte := BitVec 8

/-- One command word, and the width of RDATA (R80, R44). -/
abbrev Word := BitVec 32

/-- One configuration or status register (10_state.md section 3). -/
abbrev Reg := BitVec 24

end Sys2Proof
end

