-- ==== Sys2Proof/Syntax.lean ====
section
/-! DEFINITION. The ten commands of 30_encoding.md R82, one constructor each. -/

namespace Sys2Proof

/-- A command with its operands as R81 reads them. Register indices keep their four bits: the two
commands that carry one are illegal for some of its values (R85), which WellFormed says. -/
inductive Instr where
  /-- R110 -/
  | nop
  /-- R111: store `v` in configuration register `r`. -/
  | wrcfg (r : BitVec 4) (v : BitVec 24)
  /-- R112: append chip `c` to CODE. -/
  | wrcode (c : Byte)
  /-- R113, R114, R115 -/
  | construct
  /-- R116: append unit `u` to IB. -/
  | push (u : Byte)
  /-- R117: append the sample `(i, q)`, two's complement, to SB. -/
  | pushs (i q : BitVec 12)
  /-- R118 -/
  | run
  /-- R119 (soft reset) -/
  | reset
  /-- R120 -/
  | clear
  /-- R121: read register `r` into RDATA. -/
  | rdreg (r : BitVec 4)
deriving DecidableEq, Repr

end Sys2Proof
end

