-- ==== Sys2Proof/WellFormed.lean ====
section
/-! DEFINITION. Which terms of Instr are commands: the register indices R85 allows. -/

namespace Sys2Proof

/-- The largest register index WRCFG may name (R85). -/
def lastCfgIndex : Nat := 5

/-- The largest register index RDREG may name (R85). -/
def lastRegIndex : Nat := 12

/-- R85: WRCFG names register 0..5 and RDREG register 0..12; every other operand value is legal (R81). -/
def Instr.wellFormed : Instr → Bool
  | .nop => true
  | .wrcfg r _ => decide (r.toNat ≤ lastCfgIndex)
  | .wrcode _ => true
  | .construct => true
  | .push _ => true
  | .pushs _ _ => true
  | .run => true
  | .reset => true
  | .clear => true
  | .rdreg r => decide (r.toNat ≤ lastRegIndex)

/-- `i` is a command the encoding has a legal word for. -/
abbrev Instr.WellFormed (i : Instr) : Prop := i.wellFormed = true

end Sys2Proof
end

