-- ==== Sys2Proof/Decode.lean ====
section
/-! DEFINITION. Command words to commands and back (30_encoding.md R80 to R86). -/

namespace Sys2Proof

/-! ## Fields of format F0 (R80) -/

/-- OP = w[31:28]. -/
def opField (w : Word) : BitVec 4 := w.extractLsb' 28 4

/-- R = w[27:24]. -/
def regField (w : Word) : BitVec 4 := w.extractLsb' 24 4

/-- IMM = w[23:0]. -/
def immField (w : Word) : BitVec 24 := w.extractLsb' 0 24

/-- IMM[7:0], the operand of WRCODE and PUSH (R81). -/
def immByte (w : Word) : Byte := w.extractLsb' 0 8

/-- IMM[23:8], which WRCODE and PUSH define as 0 (R84). -/
def immHigh (w : Word) : BitVec 16 := w.extractLsb' 8 16

/-- IMM[23:12], the in-phase component of PUSHS (R81). -/
def immI (w : Word) : BitVec 12 := w.extractLsb' 12 12

/-- IMM[11:0], the quadrature component of PUSHS (R81). -/
def immQ (w : Word) : BitVec 12 := w.extractLsb' 0 12

/-! ## Decoding -/

/-- Why a word is an illegal command; each is Fault(ILLEGAL_CMD) (R270). -/
inductive DecodeError where
  /-- R83: OP in 0xA..0xF. -/
  | reservedOpcode (op : BitVec 4)
  /-- R84: a field the opcode defines as 0 is nonzero. -/
  | reservedFieldNonzero (op : BitVec 4)
  /-- R85: WRCFG with R > 5, or RDREG with R > 12. -/
  | badRegisterIndex (r : BitVec 4)
deriving DecidableEq, Repr

/-- `i` if the fields R84 wants to be 0 are 0. -/
def requireZero (zero : Bool) (op : BitVec 4) (i : Instr) : Except DecodeError Instr :=
  if zero then .ok i else .error (.reservedFieldNonzero op)

/-- The opcode map R82, total on every word. -/
def decode (w : Word) : Except DecodeError Instr :=
  match (opField w).toNat with
  | 0x0 => requireZero (regField w == 0 && immField w == 0) (opField w) .nop
  | 0x1 => if (regField w).toNat ≤ lastCfgIndex then .ok (.wrcfg (regField w) (immField w))
           else .error (.badRegisterIndex (regField w))
  | 0x2 => requireZero (regField w == 0 && immHigh w == 0) (opField w) (.wrcode (immByte w))
  | 0x3 => requireZero (regField w == 0 && immField w == 0) (opField w) .construct
  | 0x4 => requireZero (regField w == 0 && immHigh w == 0) (opField w) (.push (immByte w))
  | 0x5 => requireZero (regField w == 0) (opField w) (.pushs (immI w) (immQ w))
  | 0x6 => requireZero (regField w == 0 && immField w == 0) (opField w) .run
  | 0x7 => requireZero (regField w == 0 && immField w == 0) (opField w) .reset
  | 0x8 => requireZero (regField w == 0 && immField w == 0) (opField w) .clear
  | 0x9 => if immField w == 0 then
             if (regField w).toNat ≤ lastRegIndex then .ok (.rdreg (regField w))
             else .error (.badRegisterIndex (regField w))
           else .error (.reservedFieldNonzero (opField w))
  | _ => .error (.reservedOpcode (opField w))

/-- What the decoder reads from an instruction of `nbits` bits whose bits are `w`, every higher bit 0.
A command is one 32-bit word that the host writes whole (R80), so the word is `w` itself. -/
def decodeTableWord (nbits w : Nat) : Option Instr :=
  match decode (BitVec.ofNat 32 (w % 2 ^ nbits)) with
  | .ok i => some i
  | .error _ => none

/-! ## Encoding (R81, R82, R87) -/

/-- The word with the three fields of format F0 (R80). -/
def formatF0 (op r : BitVec 4) (imm : BitVec 24) : Word := (op ++ r ++ imm : BitVec (4 + 4 + 24))

/-- The word of a command (R82); the word of an ill-formed one is illegal (R85). -/
def encode : Instr → Word
  | .nop => formatF0 0x0 0 0
  | .wrcfg r v => formatF0 0x1 r v
  | .wrcode c => formatF0 0x2 0 (c.setWidth 24)
  | .construct => formatF0 0x3 0 0
  | .push u => formatF0 0x4 0 (u.setWidth 24)
  | .pushs i q => formatF0 0x5 0 (i ++ q : BitVec (12 + 12))
  | .run => formatF0 0x6 0 0
  | .reset => formatF0 0x7 0 0
  | .clear => formatF0 0x8 0 0
  | .rdreg r => formatF0 0x9 r 0

end Sys2Proof
end

