-- ==== Sys2Proof/Config.lean ====
section
/-! DEFINITION. What is fixed for a machine: the constants of 00_scope.md section 3, and its OPEN
parameters that are functions or draws (opaque: nothing can evaluate them). -/

namespace Sys2Proof.Config

/-- CODE_MAX (92 D33). -/
def codeMax : Nat := 256

/-- BUFCAP_MAX (92 D14). -/
def bufcapMax : Nat := 65535

/-- The largest legal THRESH, 1.0 (R23). -/
def threshMax : Nat := 0x8000

/-- DSTAR_SD_CAP (92 D22). -/
def dstarSdCap : Nat := 168

/-- MATCH_GRANULARITY (R141): whether a byte personality counts agreeing bits or agreeing bytes. -/
inductive Granularity where
  | bit
  | byte
deriving DecidableEq, Repr

/-- The OPEN parameters that are plain data. A machine has one value of each; State carries them so that a
statement about every state holds for every value. -/
structure Params where
  /-- MATCH_GRANULARITY, default BIT (92 D10). -/
  matchGranularity : Granularity
  /-- POCSAG_CHECK_PARITY, default false (92 D25). -/
  checkParity : Bool
deriving DecidableEq, Repr

/-- The values 00_scope.md section 3 gives as defaults. -/
def defaultParams : Params := ⟨.bit, false⟩

/-- What P25_FIELDS answers (R214). -/
structure P25Fields where
  source : Nat
  destination : Nat
  talkgroup : Nat
  encrypted : Bool
deriving DecidableEq, Repr, Inhabited

/-- What YSF_FICH_FIELDS answers (R221). -/
structure FichFields where
  frameType : Nat
  radioId : Nat
  groupId : Nat
deriving DecidableEq, Repr, Inhabited

/-- P25_FIELDS of LDU1 and LDU2, OPEN (R214, 92 D23). -/
opaque p25Fields : List Byte → List Byte → P25Fields

/-- YSF_FICH_FIELDS of the FICH, OPEN (R221, 92 D24). -/
opaque ysfFichFields : List Byte → FichFields

/-- YSF_CALLSIGNS, OPEN (R223, 92 D24): the `n`-th draw of channel `k`, applied as `ysfCallsigns k n`, is absent or
any byte string. Nothing relates one draw to another, in one channel or in two (DESIGN CHOICE, log entry 3). -/
opaque ysfCallsigns : Nat → Nat → Option (List Byte)

/-- How many channels a system has beyond its first, OPEN (R285). -/
opaque extraChannels : Nat

/-- NUM_CHANNELS, any natural number from 1 (R285). -/
def numChannels : Nat := extraChannels + 1

end Sys2Proof.Config
end

