-- ==== Sys2Proof/Machine/State.lean ====
section
/-! DEFINITION. The state of one channel (10_state.md), as plain data, its reset value (R45), and the
reasons a step could stop. -/

namespace Sys2Proof.Machine

/-- No command stops the machine: every fault of the spec sets a sticky STATUS bit and the next command is
processed normally (R272). So this type has no constructor, and no step answers a fault. -/
inductive Fault where
deriving DecidableEq, Repr

/-- Why a step could have no meaning. -/
inductive Refusal where
  /-- Raised by an arm of exec whose command has no meaning in the model yet; safe. No arm does. -/
  | notModelled (mnemonic : String)
deriving DecidableEq, Repr

/-- LC, the lifecycle of the channel (R20). -/
inductive Lifecycle where
  /-- No CONSTRUCT has run since hard reset or CLEAR. -/
  | unconfigured
  /-- The last CONSTRUCT failed with InvalidArgument. -/
  | cfgError
  /-- The last CONSTRUCT succeeded. -/
  | ready
deriving DecidableEq, Repr

/-- The personalities PROTO selects (R1, R22). -/
inductive Personality where
  | m17
  | dstar
  | p25
  | ysf
  | pocsag
  | dsssEnc
  | dsssDec
deriving DecidableEq, Repr

/-- DSTATE (R37). -/
inductive DState where
  | idle
  | syncSearch
  | m17Lsf
  | m17Pkt
  | dstarSynced
  | dstarHeader
  | dstarVoice
  | p25Nid
  | p25Ldu1
  | p25Ldu2
  | ysfFich
  | ysfVoice
  | pocsagBatch
  | dsssStream
deriving DecidableEq, Repr

/-- The command faults (R272). -/
inductive FaultKind where
  /-- R270 -/
  | illegalCmd
  /-- R271 -/
  | seqErr
  /-- R273 -/
  | inputErr
  /-- R274 -/
  | codeOvf
deriving DecidableEq, Repr

/-- The causes of a failed CONSTRUCT (R275). No other ERRCODE is ever written. -/
inductive ErrCode where
  | none
  | protoInvalid
  | threshRange
  | bufcapRange
  | m17MaxlenRange
  | baudInvalid
  | codeEmpty
  | codeChipRange
  | spsRange
  | symbolExceedsBufcap
deriving DecidableEq, Repr

/-- The frame types of a record (R75). -/
inductive FrameType where
  | m17LsfStream
  | m17Packet
  | dstarHeader
  | dstarVoice
  | p25Voice
  | ysfVoice
  | pocsagPage
deriving DecidableEq, Repr

/-- The tag keys (R74). -/
inductive TagKey where
  | frameType
  | nac
  | source
  | destination
  | talkgroup
  | encrypted
  | radioId
  | groupId
  | callsigns
  | rpt2
  | rpt1
  | your
  | my
  | suffix
  | address
  | function
  | message
deriving DecidableEq, Repr

/-- A tag: a key with a value of the type R74 gives that key. -/
inductive Tag where
  | frameType (v : Nat)
  | nac (v : BitVec 12)
  | source (v : Nat)
  | destination (v : Nat)
  | talkgroup (v : Nat)
  | encrypted (v : Bool)
  | radioId (v : Nat)
  | groupId (v : Nat)
  | callsigns (v : List Byte)
  | rpt2 (v : List Byte)
  | rpt1 (v : List Byte)
  | your (v : List Byte)
  | my (v : List Byte)
  | suffix (v : List Byte)
  | address (v : BitVec 21)
  | function (v : BitVec 2)
  | message (v : List Byte)
deriving DecidableEq, Repr

/-- An output record (R65). The tags are a finite map, held as a list with no key twice, in the order
the rule that emits the record lists them. -/
inductive Record where
  | frame (ftype : FrameType) (payload : List Byte) (tags : List Tag)
  | chips (chips : List Byte)
  | corr (numI numQ : Int) (den : Nat)
deriving DecidableEq, Repr

/-- A complex sample, each component a 12-bit two's-complement number (R43). -/
structure Sample where
  i : BitVec 12
  q : BitVec 12
deriving DecidableEq, Repr

/-- What the outside applies to the channel. -/
inductive HostEvent where
  /-- The host writes a command word (R80). -/
  | command (w : Word)
  /-- The block's reset input is applied (R290). -/
  | hardReset
deriving DecidableEq, Repr

/-- The configuration registers reg[0..5] (10_state.md section 3). -/
structure Cfg where
  /-- reg[0] PROTO (R22) -/
  proto : Reg
  /-- reg[1] THRESH (R23) -/
  thresh : Reg
  /-- reg[2] BUFCAP (R24) -/
  bufcap : Reg
  /-- reg[3] M17_MAXLEN (R25) -/
  m17Maxlen : Reg
  /-- reg[4] POCSAG_BAUD (R26) -/
  pocsagBaud : Reg
  /-- reg[5] DSSS_SPS (R27) -/
  dsssSps : Reg
deriving DecidableEq, Repr

/-- The sticky bits of STATUS, bits 2 to 5 (R30). -/
structure Sticky where
  illegalCmd : Bool
  seqErr : Bool
  inputErr : Bool
  codeOvf : Bool
deriving DecidableEq, Repr

/-- The state of one channel: 10_state.md section 1, and after it five fields of the model's own. The
registers CODE_LEN, STATUS, STATE, IB_LEN and FB_LEN are computed from it (R29 to R34). -/
structure State where
  /-- LC (R20) -/
  lc : Lifecycle
  /-- reg[0..5] -/
  cfg : Cfg
  /-- CODE (R28) -/
  code : List Byte
  /-- STATUS bits 2 to 5 (R30) -/
  sticky : Sticky
  /-- ERRCODE (R31) -/
  errcode : ErrCode
  /-- DSTATE (R37) -/
  dstate : DState
  /-- IB (R39), oldest unit first -/
  ib : List Byte
  /-- SB (R43), oldest sample first -/
  sb : List Sample
  /-- FB (R40) -/
  fb : List Byte
  /-- EXP (R38) -/
  exp : Nat
  /-- NIDREG (R41); the empty list is "empty" -/
  nidreg : List Byte
  /-- LDU1REG (R41) -/
  ldu1reg : List Byte
  /-- FICHREG (R41) -/
  fichreg : List Byte
  /-- SDACC (R42), first bit first -/
  sdacc : List Bool
  /-- RDATA (R44) -/
  rdata : Word
  /-- OUT_COUNT (R35) -/
  outCount : Reg
  /-- OUT (R66), the host-side stream, first record first -/
  out : List Record
  /-- The model's own: what the outside has applied and the channel has not taken yet (log entry 1). -/
  port : List HostEvent
  /-- The model's own: how many YSF_CALLSIGNS draws have been made (log entry 3). -/
  draws : Nat
  /-- The model's own: which channel of its system this is, so that its YSF_CALLSIGNS draws are its own (R72, R223);
  no step changes it (log entry 3). -/
  channel : Nat
  /-- The model's own: the implementation's parameters, which no step changes (log entry 2). -/
  params : Config.Params
deriving DecidableEq, Repr

/-- reg[0..5] after reset (R45). -/
def Cfg.reset : Cfg :=
  { proto := 0, thresh := 0x008000, bufcap := 2000, m17Maxlen := 0, pocsagBaud := 0, dsssSps := 0 }

/-- The sticky bits after reset (R45: STATUS = 0). -/
def Sticky.clear : Sticky := ⟨false, false, false, false⟩

/-- The machine at power-on (R45, R290). -/
def State.reset : State :=
  { lc := .unconfigured
    cfg := Cfg.reset
    code := []
    sticky := Sticky.clear
    errcode := .none
    dstate := .idle
    ib := []
    sb := []
    fb := []
    exp := 0
    nidreg := []
    ldu1reg := []
    fichreg := []
    sdacc := []
    rdata := 0
    outCount := 0
    out := []
    port := []
    draws := 0
    channel := 0
    params := Config.defaultParams }

end Sys2Proof.Machine
end

