-- ==== Sys2Proof/Machine/Ops.lean ====
section
/-! DEFINITION. The named operations over the state that the commands share: raising a fault, emitting a
record, the capped append, the writes of configuration, and the reset forms. -/

namespace Sys2Proof.Machine

/-! ## Faults (R272)

`raise` is the BSFD's whole fault entry: there is no vector, no saved state and no return from a fault
(R272, R278). Only CLEAR and hard reset clear a sticky bit (R30). -/

/-- The sticky bits with the bit of `k` set. -/
def Sticky.set (k : FaultKind) (b : Sticky) : Sticky :=
  match k with
  | .illegalCmd => { b with illegalCmd := true }
  | .seqErr => { b with seqErr := true }
  | .inputErr => { b with inputErr := true }
  | .codeOvf => { b with codeOvf := true }

/-- `raise Fault(k)`: one sticky bit and nothing else (R272). -/
def State.raise (k : FaultKind) (s : State) : State := { s with sticky := s.sticky.set k }

/-- The outcome of a command that raises `k`: the channel goes on in the next state (R272). -/
def raiseNext (k : FaultKind) (s : State) : Host.Outcome State Fault Refusal := .next (s.raise k)

/-! ## Emission (R66) -/

/-- `emit(rec)`: append to OUT and count modulo 2^24 (R66). -/
def State.emit (r : Record) (s : State) : State :=
  { s with out := s.out ++ [r], outCount := s.outCount + 1 }

/-- Emit records in order. -/
def State.emitAll (rs : List Record) (s : State) : State := rs.foldl (fun t r => t.emit r) s

/-! ## Buffers (R62, R63) -/

/-- The cap rule at one append: at the cap the oldest element goes first (R62, R63). -/
def capAppend {α : Type} (cap : Nat) (buf : List α) (x : α) : List α :=
  (if buf.length = cap then buf.drop 1 else buf) ++ [x]

/-- Append a unit to IB under the cap BUFCAP (R62, R116). -/
def State.pushUnit (u : Byte) (s : State) : State :=
  { s with ib := capAppend s.cfg.bufcap.toNat s.ib u }

/-- Append a sample to SB under the cap BUFCAP (R63, R117). -/
def State.pushSample (x : Sample) (s : State) : State :=
  { s with sb := capAppend s.cfg.bufcap.toNat s.sb x }

/-! ## Configuration writes (R111, R112) -/

/-- reg[n] <- v for n in 0..5 (R111); no other index is a configuration register. -/
def Cfg.write (n : Nat) (v : Reg) (c : Cfg) : Cfg :=
  match n with
  | 0 => { c with proto := v }
  | 1 => { c with thresh := v }
  | 2 => { c with bufcap := v }
  | 3 => { c with m17Maxlen := v }
  | 4 => { c with pocsagBaud := v }
  | 5 => { c with dsssSps := v }
  | _ => c

/-- Write configuration register `n` (R111). -/
def State.writeCfg (n : Nat) (v : Reg) (s : State) : State := { s with cfg := s.cfg.write n v }

/-- Append a chip to CODE (R112). -/
def State.appendChip (c : Byte) (s : State) : State := { s with code := s.code ++ [c] }

/-- Write the read-data port (R44, R121). -/
def State.setRdata (v : Word) (s : State) : State := { s with rdata := v }

/-! ## Reset forms (R292) -/

/-- The buffers, EXP, the holding registers and SDACC at reset, OUT_COUNT at 0, and DSTATE at `d`: what a
successful CONSTRUCT and RESET do to the data state (R113, R119). -/
def State.restartData (d : DState) (s : State) : State :=
  { s with
    ib := [], sb := [], fb := [], exp := 0
    nidreg := [], ldu1reg := [], fichreg := [], sdacc := []
    outCount := 0
    dstate := d }

/-- Every element of the channel at its reset value (R45). OUT is the host's side and is kept; so are the
model's own fields, which are not part of the channel. -/
def State.toReset (s : State) : State :=
  { State.reset with
    out := s.out, port := s.port, draws := s.draws, channel := s.channel, params := s.params }

/-- Hard reset, by the block's reset input (R290). -/
def State.hardReset (s : State) : State := s.toReset

end Sys2Proof.Machine
end

