-- ==== Sys2Proof/Machine/Operands.lean ====
section
/-! DEFINITION. How values are read: PROTO as a personality, multi-unit fields (R64), sign extension (R81),
bit counts (00_scope.md section 4), and grouping of bits. -/

namespace Sys2Proof.Machine

/-! ## Personality -/

/-- The personality PROTO selects, if it is one of 1..7 (R22). -/
def personalityOf (proto : Reg) : Option Personality :=
  match proto.toNat with
  | 1 => some .m17
  | 2 => some .dstar
  | 3 => some .p25
  | 4 => some .ysf
  | 5 => some .pocsag
  | 6 => some .dsssEnc
  | 7 => some .dsssDec
  | _ => none

/-- The personality the configuration selects. -/
def State.personality (s : State) : Option Personality := personalityOf s.cfg.proto

/-- The sync personalities of 40_commands.md. -/
def Personality.isSync : Personality → Bool
  | .m17 | .dstar | .p25 | .ysf | .pocsag => true
  | .dsssEnc | .dsssDec => false

/-- The bit personalities of 40_commands.md: their units are 0 or 1 (R60). -/
def Personality.isBit : Personality → Bool
  | .pocsag | .dsssEnc => true
  | .m17 | .dstar | .p25 | .ysf | .dsssDec => false

/-- The DSSS personalities of 40_commands.md. -/
def Personality.isDsss : Personality → Bool
  | .dsssEnc | .dsssDec => true
  | .m17 | .dstar | .p25 | .ysf | .pocsag => false

/-- Where DSTATE starts after CONSTRUCT and RESET (R113, R119). -/
def Personality.startState (p : Personality) : DState :=
  if p.isDsss then .dsssStream else .syncSearch

/-! ## Operands of PUSHS (R81, R117) -/

/-- sext_12 of a sample component: an integer in -2048..2047. -/
def sext12 (v : BitVec 12) : Int := v.toInt

/-! ## Fields and counts -/

/-- The number of 1 bits. -/
def popcount {n : Nat} (v : BitVec n) : Nat := (List.range n).countP (fun i => v.getLsbD i)

/-- The value of a field of bytes, the first received most significant (R64). -/
def bytesField (bs : List Byte) : Nat := bs.foldl (fun acc b => acc * 256 + b.toNat) 0

/-- The value of a field of unpacked bits, the first received most significant (R64). -/
def unitsField (us : List Byte) : Nat := us.foldl (fun acc u => acc * 2 + u.toNat) 0

/-- The value of a group of bits, the first most significant (R198). -/
def bitsMsbFirst (bs : List Bool) : Nat := bs.foldl (fun acc b => acc * 2 + b.toNat) 0

/-- The value of a group of bits, the first least significant (R238). -/
def bitsLsbFirst (bs : List Bool) : Nat := bs.foldr (fun b acc => b.toNat + acc * 2) 0

/-- The complete groups of `k` elements of a list, in order; a shorter rest is dropped (R198, R238). -/
def fullGroups {α : Type} (k : Nat) (xs : List α) : List (List α) :=
  (List.range (xs.length / k)).map (fun m => (xs.drop (k * m)).take k)

/-- The bits of a byte, bit 7 first (R196). -/
def byteBits (b : Byte) : List Bool := (List.range 8).map (fun k => b.getLsbD (7 - k))

end Sys2Proof.Machine
end

