-- ==== Sys2Proof/Machine/Flags.lean ====
section
/-! DEFINITION. Everything STATUS, ERRCODE and STATE show (R30, R31, R32), the legality table (R271) and the
checks of CONSTRUCT (R114). -/

namespace Sys2Proof.Machine

/-! ## Codes -/

/-- The code STATE reads for DSTATE (R37). -/
def DState.code : DState → Nat
  | .idle => 0x00
  | .syncSearch => 0x01
  | .m17Lsf => 0x10
  | .m17Pkt => 0x11
  | .dstarSynced => 0x20
  | .dstarHeader => 0x21
  | .dstarVoice => 0x22
  | .p25Nid => 0x30
  | .p25Ldu1 => 0x31
  | .p25Ldu2 => 0x32
  | .ysfFich => 0x40
  | .ysfVoice => 0x41
  | .pocsagBatch => 0x50
  | .dsssStream => 0x60

/-- The value of ERRCODE (R275). -/
def ErrCode.code : ErrCode → Nat
  | .none => 0
  | .protoInvalid => 1
  | .threshRange => 2
  | .bufcapRange => 3
  | .m17MaxlenRange => 4
  | .baudInvalid => 5
  | .codeEmpty => 6
  | .codeChipRange => 7
  | .spsRange => 8
  | .symbolExceedsBufcap => 9

/-! ## STATUS (R30) -/

/-- One bit of STATUS at its place. -/
def statusBit (place : Nat) (b : Bool) : Reg := if b then 1#24 <<< place else 0#24

/-- reg[7] STATUS: bits 0 and 1 follow LC, bits 2 to 5 are sticky, bits 23:6 read as 0 (R30). -/
def State.status (s : State) : Reg :=
  statusBit 0 (s.lc == .ready) ||| statusBit 1 (s.lc == .cfgError) |||
  statusBit 2 s.sticky.illegalCmd ||| statusBit 3 s.sticky.seqErr |||
  statusBit 4 s.sticky.inputErr ||| statusBit 5 s.sticky.codeOvf

/-! ## Legality in the lifecycle (R271) -/

/-- WRCFG, WRCODE and CONSTRUCT are allowed: LC is UNCONFIGURED or CFG_ERROR (R271). -/
def State.configurable (s : State) : Bool :=
  match s.lc with
  | .unconfigured => true
  | .cfgError => true
  | .ready => false

/-- RUN and RESET are allowed: LC is READY (R271). -/
def State.isReady (s : State) : Bool := !s.configurable

/-- PROTO = DSSS_DEC. -/
def State.isDsssDec (s : State) : Bool := s.personality == some .dsssDec

/-- PUSH is allowed: READY and PROTO is not DSSS_DEC (R271). -/
def State.pushAllowed (s : State) : Bool := s.isReady && !s.isDsssDec

/-- PUSHS is allowed: READY and PROTO = DSSS_DEC (R271). -/
def State.pushsAllowed (s : State) : Bool := s.isReady && s.isDsssDec

/-- The unit is outside the input contract of a bit personality (R273). -/
def State.badUnit (s : State) (u : Byte) : Bool :=
  match s.personality with
  | some p => p.isBit && decide (1 < u.toNat)
  | none => false

/-! ## The checks of CONSTRUCT (R114) -/

/-- W, the sync pattern width in units; the DSSS personalities have no pattern (00_scope.md section 3). -/
def Personality.width : Personality → Nat
  | .m17 => 2
  | .dstar => 3
  | .p25 => 6
  | .ysf => 2
  | .pocsag => 32
  | .dsssEnc => 0
  | .dsssDec => 0

/-- Check 2 passes (R114). -/
def checkThresh (p : Personality) (c : Cfg) : Bool :=
  !p.isSync || decide (c.thresh.toNat ≤ Config.threshMax)

/-- Check 3 passes (R114). -/
def checkBufcap (p : Personality) (c : Cfg) : Bool :=
  decide (1 ≤ c.bufcap.toNat) && decide (c.bufcap.toNat ≤ Config.bufcapMax) &&
  (!p.isSync || decide (p.width ≤ c.bufcap.toNat))

/-- Check 4 passes (R114). -/
def checkM17Maxlen (p : Personality) (c : Cfg) : Bool :=
  p != .m17 || decide (2 ≤ c.m17Maxlen.toNat)

/-- Check 5 passes (R114). -/
def checkBaud (p : Personality) (c : Cfg) : Bool :=
  p != .pocsag || c.pocsagBaud == 512 || c.pocsagBaud == 1200 || c.pocsagBaud == 2400

/-- Check 6 passes (R114). -/
def checkCodeNonempty (p : Personality) (code : List Byte) : Bool :=
  !p.isDsss || decide (1 ≤ code.length)

/-- Check 7 passes (R114). -/
def checkChips (p : Personality) (code : List Byte) : Bool :=
  !p.isDsss || code.all (fun c => decide (c.toNat ≤ 1))

/-- Check 8 passes (R114). -/
def checkSps (p : Personality) (c : Cfg) : Bool :=
  p != .dsssDec || decide (1 ≤ c.dsssSps.toNat)

/-- Check 9 passes (R114). -/
def checkSymbol (p : Personality) (c : Cfg) (code : List Byte) : Bool :=
  p != .dsssDec || decide (code.length * c.dsssSps.toNat ≤ c.bufcap.toNat)

/-- CONSTRUCT's checks in the order of R114: the personality to construct, or the ERRCODE of the first
check that fails. -/
def checkConfig (c : Cfg) (code : List Byte) : Except ErrCode Personality :=
  match personalityOf c.proto with
  | none => .error .protoInvalid
  | some p =>
    if !checkThresh p c then .error .threshRange
    else if !checkBufcap p c then .error .bufcapRange
    else if !checkM17Maxlen p c then .error .m17MaxlenRange
    else if !checkBaud p c then .error .baudInvalid
    else if !checkCodeNonempty p code then .error .codeEmpty
    else if !checkChips p code then .error .codeChipRange
    else if !checkSps p c then .error .spsRange
    else if !checkSymbol p c code then .error .symbolExceedsBufcap
    else .ok p

/-! ## The register file (R22 to R35, R121) -/

/-- IB_LEN counts SB for a constructed DSSS_DEC channel and IB otherwise (R33). -/
def State.ibLen (s : State) : Nat :=
  if s.isReady && s.isDsssDec then s.sb.length else s.ib.length

/-- reg[n] as RDREG reads it, zero-extended or cut to 24 bits; 13 to 15 are reserved and no command reads
them (R36). -/
def State.readReg (s : State) (n : Nat) : Reg :=
  match n with
  | 0 => s.cfg.proto
  | 1 => s.cfg.thresh
  | 2 => s.cfg.bufcap
  | 3 => s.cfg.m17Maxlen
  | 4 => s.cfg.pocsagBaud
  | 5 => s.cfg.dsssSps
  | 6 => BitVec.ofNat 24 s.code.length
  | 7 => s.status
  | 8 => BitVec.ofNat 24 s.errcode.code
  | 9 => BitVec.ofNat 24 s.dstate.code
  | 10 => BitVec.ofNat 24 s.ibLen
  | 11 => BitVec.ofNat 24 s.fb.length
  | 12 => s.outCount
  | _ => 0

end Sys2Proof.Machine
end

