-- ==== Sys2Proof/Machine/Configure.lean ====
section
/-! DEFINITION. The meanings of NOP and of the configuration commands WRCFG, WRCODE, CONSTRUCT
(40_commands.md section 1). The checks stand in the order of R277. -/

namespace Sys2Proof.Machine

/-- NOP (R110). -/
def execNop (s : State) : Host.Outcome State Fault Refusal := .next s

/-- WRCFG r, v (R111). -/
def execWrcfg (r : BitVec 4) (v : BitVec 24) (s : State) : Host.Outcome State Fault Refusal :=
  if 5 < r.toNat then raiseNext .illegalCmd s
  else if !s.configurable then raiseNext .seqErr s
  else .next (s.writeCfg r.toNat v)

/-- WRCODE c (R112). -/
def execWrcode (c : Byte) (s : State) : Host.Outcome State Fault Refusal :=
  if !s.configurable then raiseNext .seqErr s
  else if s.code.length = Config.codeMax then raiseNext .codeOvf s
  else .next (s.appendChip c)

/-- LC <- READY; ERRCODE <- 0; the data state restarted for personality `p` (R113). -/
def State.construct (p : Personality) (s : State) : State :=
  { s.restartData p.startState with lc := .ready, errcode := .none }

/-- LC <- CFG_ERROR; ERRCODE <- k; DSTATE <- IDLE (R115). -/
def State.constructFailed (e : ErrCode) (s : State) : State :=
  { s with lc := .cfgError, errcode := e, dstate := .idle }

/-- CONSTRUCT (R113, R114, R115). -/
def execConstruct (s : State) : Host.Outcome State Fault Refusal :=
  if !s.configurable then raiseNext .seqErr s
  else
    match checkConfig s.cfg s.code with
    | .ok p => .next (s.construct p)
    | .error e => .next (s.constructFailed e)

end Sys2Proof.Machine
end

