-- ==== Sys2Proof/Machine/Deliver.lean ====
section
/-! DEFINITION. The meanings of the input commands PUSH and PUSHS (40_commands.md section 2). -/

namespace Sys2Proof.Machine

/-- PUSH u (R116). -/
def execPush (u : Byte) (s : State) : Host.Outcome State Fault Refusal :=
  if !s.pushAllowed then raiseNext .seqErr s
  else if s.badUnit u then raiseNext .inputErr s
  else .next (s.pushUnit u)

/-- PUSHS i, q (R117). -/
def execPushs (i q : BitVec 12) (s : State) : Host.Outcome State Fault Refusal :=
  if !s.pushsAllowed then raiseNext .seqErr s
  else .next (s.pushSample ⟨i, q⟩)

end Sys2Proof.Machine
end

