-- ==== Sys2Proof/Machine/Sync.lean ====
section
/-! DEFINITION. The sync detector (41_sync_detector.md): patterns, match counts, acceptance, search. -/

namespace Sys2Proof.Machine

/-! ## Patterns (R2, 41_sync_detector.md section 1) -/

/-- The 32 unpacked bits of a codeword, bit 31 first (R142). -/
def codewordUnits (cw : BitVec 32) : List Byte :=
  (List.range 32).map (fun i => if cw.getLsbD (31 - i) then 1 else 0)

/-- PATS, in stream order; the index in the list is the pattern's number. -/
def patterns : Personality → List (List Byte)
  | .m17 => [[0xDF, 0x55], [0x9F, 0xF6]]
  | .dstar => [[0x55, 0x2D, 0x16]]
  | .p25 => [[0x55, 0x75, 0xF5, 0xFF, 0x77, 0xFF]]
  | .ysf => [[0xD4, 0x71]]
  | .pocsag => [codewordUnits 0x7CD215D8]
  | .dsssEnc => []
  | .dsssDec => []

/-! ## Match count and acceptance -/

/-- How positions are compared: MATCH_GRANULARITY for the byte personalities (R141), always whole units for
POCSAG, whose units are bits (R142). -/
def compareMode (g : Config.Granularity) : Personality → Config.Granularity
  | .pocsag => .byte
  | _ => g

/-- What one unit contributes to the match count (R141, R142). -/
def unitMatch (mode : Config.Granularity) (x y : Byte) : Nat :=
  match mode with
  | .bit => 8 - popcount (x ^^^ y)
  | .byte => if x = y then 1 else 0

/-- m(o, p): the agreeing positions of a window and a pattern (R141, R142). -/
def matchCount (mode : Config.Granularity) (window pat : List Byte) : Nat :=
  (List.zipWith (unitMatch mode) window pat).sum

/-- N: the number of compare positions of a pattern (R141, R142). -/
def comparePositions (mode : Config.Granularity) (pat : List Byte) : Nat :=
  match mode with
  | .bit => 8 * pat.length
  | .byte => pat.length

/-- R143: the exact comparison m/N >= THRESH/32768, in integers. -/
def qualifies (mode : Config.Granularity) (thresh : Nat) (window pat : List Byte) : Bool :=
  decide (thresh * comparePositions mode pat ≤ matchCount mode window pat * 32768)

/-! ## Search -/

/-- The chosen pattern among those that qualify, with its count: the largest count, and at a tie the lower
index (R145). `p` is the number of the first pattern of the list. -/
def choose (mode : Config.Granularity) (thresh : Nat) (window : List Byte) :
    Nat → List (List Byte) → Option (Nat × Nat)
  | _, [] => none
  | p, pat :: pats =>
    match choose mode thresh window (p + 1) pats with
    | none =>
      if qualifies mode thresh window pat then some (p, matchCount mode window pat) else none
    | some (q, m) =>
      if qualifies mode thresh window pat && decide (m ≤ matchCount mode window pat)
      then some (p, matchCount mode window pat)
      else some (q, m)

/-- R144 from offset `o` on, where `buf` is the buffer without its first `o` units: the first window that
qualifies for some pattern, and the pattern chosen. A window of fewer than `w` units is no candidate (R140). -/
def searchFrom (mode : Config.Granularity) (thresh w : Nat) (pats : List (List Byte)) :
    Nat → List Byte → Option (Nat × Nat)
  | _, [] => none
  | o, u :: us =>
    let window := (u :: us).take w
    if window.length < w then none
    else
      match choose mode thresh window 0 pats with
      | some (p, _) => some (o, p)
      | none => searchFrom mode thresh w pats (o + 1) us

/-- `search()` of a sync personality over a buffer: offset and pattern number (R144). -/
def searchBuffer (g : Config.Granularity) (p : Personality) (thresh : Nat) (buf : List Byte) :
    Option (Nat × Nat) :=
  searchFrom (compareMode g p) thresh p.width (patterns p) 0 buf

/-- `search()` of the channel; a personality without patterns finds nothing. -/
def State.search (s : State) : Option (Nat × Nat) :=
  match s.personality with
  | none => none
  | some p => searchBuffer s.params.matchGranularity p s.cfg.thresh.toNat s.ib

end Sys2Proof.Machine
end

