-- ==== Sys2Proof/Machine/Frame.lean ====
section
/-! DEFINITION. What every deframer shares (42_deframer_common.md sections 1 and 2): starting a frame part,
collecting units, ending a frame. -/

namespace Sys2Proof.Machine

/-- EXP <- n; DSTATE <- d: the entry to a collecting state (R38). -/
def State.expect (d : DState) (n : Nat) (s : State) : State := { s with exp := n, dstate := d }

/-- IB <- drop(IB, n): the units before a match (R146), or the sync a personality consumes. -/
def State.dropUnits (n : Nat) (s : State) : State := { s with ib := s.ib.drop n }

/-- The loop of R161 over IB, FB and EXP: units move one at a time until FB holds EXP units or IB is empty. -/
def collectUnits (exp : Nat) : List Byte → List Byte → List Byte × List Byte
  | fb, [] => (fb, [])
  | fb, u :: us => if fb.length < exp then collectUnits exp (fb ++ [u]) us else (fb, u :: us)

/-- `collect()` (R161). -/
def State.collect (s : State) : State :=
  { s with fb := (collectUnits s.exp s.fb s.ib).1, ib := (collectUnits s.exp s.fb s.ib).2 }

/-- `end_frame()` (R163). -/
def State.endFrame (s : State) : State :=
  { s with fb := [], exp := 0, nidreg := [], ldu1reg := [], fichreg := [], dstate := .syncSearch }

end Sys2Proof.Machine
end

