-- ==== Sys2Proof/Machine/Dstar.lean ====
section
/-! DEFINITION. The D-STAR deframer (44_dstar.md). -/

namespace Sys2Proof.Machine

/-- `on_sync(0)` for DSTAR (R190). -/
def onSyncDstar (s : State) : State := (s.dropUnits 3).expect .dstarSynced 0

/-- `dstar_choose()` (R191): `none` where it returns false. -/
def State.dstarChoose (s : State) : Option State :=
  if 41 ≤ s.ib.length then some (s.expect .dstarHeader 41)
  else if 15 ≤ s.ib.length then some (s.expect .dstarVoice 15)
  else none

/-- `trim(s)`: without the trailing bytes equal to 0x20 (R194). -/
def trim (bs : List Byte) : List Byte := (bs.reverse.dropWhile (fun b => b == 0x20)).reverse

/-- The bytes `lo` to `lo + n - 1` of the header (R193). -/
def headerField (h : List Byte) (lo n : Nat) : List Byte := (h.drop lo).take n

/-- The five tags of a header (R192, R193). -/
def headerTags (h : List Byte) : List Tag :=
  [.rpt2 (trim (headerField h 3 8)), .rpt1 (trim (headerField h 11 8)),
   .your (trim (headerField h 19 8)), .my (trim (headerField h 27 8)),
   .suffix (trim (headerField h 35 4))]

/-- `complete(DSTAR_HEADER)` (R192). -/
def completeDstarHeader (s : State) : State :=
  (s.emit (.frame .dstarHeader s.fb (headerTags s.fb))).endFrame

/-- The slow-data cap R197 and then `sd_append` R196. -/
def sdAppend (sd : List Byte) (acc : List Bool) : List Bool :=
  (if Config.dstarSdCap < acc.length + 24 then [] else acc) ++ sd.flatMap byteBits

/-- A printable character (R198). -/
def printable (c : Nat) : Bool := decide (0x20 ≤ c) && decide (c ≤ 0x7E)

/-- `sd_message()` (R198): 7-bit characters up to the first that is null or not printable. -/
def sdMessage (acc : List Bool) : List Byte :=
  (((fullGroups 7 acc).map bitsMsbFirst).takeWhile printable).map (BitVec.ofNat 8)

/-- SDACC <- v (R196, R197). -/
def State.setSdacc (v : List Bool) (s : State) : State := { s with sdacc := v }

/-- `complete(DSTAR_VOICE)` (R195). -/
def completeDstarVoice (s : State) : State :=
  let acc := sdAppend ((s.fb.drop 12).take 3) s.sdacc
  ((s.setSdacc acc).emit (.frame .dstarVoice (s.fb.take 12) [.message (sdMessage acc)])).endFrame

end Sys2Proof.Machine
end

