-- ==== Sys2Proof/Machine/M17.lean ====
section
/-! DEFINITION. The M17 deframer (43_m17.md). -/

namespace Sys2Proof.Machine

/-- FB <- take(IB, 2); IB <- drop(IB, 2): M17 keeps the received sync in the frame (R180). -/
def State.keepSync (s : State) : State := { s with fb := s.ib.take 2, ib := s.ib.drop 2 }

/-- `on_sync(p)` for M17 (R180): pattern 0 starts an LSF/Stream frame, pattern 1 a Packet frame. -/
def onSyncM17 (p : Nat) (s : State) : State :=
  if p = 0 then s.keepSync.expect .m17Lsf 48
  else s.keepSync.expect .m17Pkt s.cfg.m17Maxlen.toNat

/-- `complete(M17_LSF)` (R181). -/
def completeM17Lsf (s : State) : State :=
  if s.fb.length = 48 then (s.emit (.frame .m17LsfStream s.fb [])).endFrame else s.endFrame

/-- `complete(M17_PKT)` (R182). -/
def completeM17Pkt (s : State) : State :=
  if 4 ≤ s.fb.length then (s.emit (.frame .m17Packet s.fb [])).endFrame else s.endFrame

end Sys2Proof.Machine
end

