-- ==== Sys2Proof/Machine/P25.lean ====
section
/-! DEFINITION. The P25 deframer (45_p25.md). -/

namespace Sys2Proof.Machine

/-- `on_sync(0)` for P25 (R210). -/
def onSyncP25 (s : State) : State := (s.dropUnits 6).expect .p25Nid 8

/-- NIDREG <- FB; FB <- [] (R211). -/
def State.holdNid (s : State) : State := { s with nidreg := s.fb, fb := [] }

/-- LDU1REG <- FB; FB <- [] (R213). -/
def State.holdLdu1 (s : State) : State := { s with ldu1reg := s.fb, fb := [] }

/-- `complete(P25_NID)` (R211). -/
def completeP25Nid (s : State) : State := s.holdNid.expect .p25Ldu1 90

/-- `complete(P25_LDU1)` (R213). -/
def completeP25Ldu1 (s : State) : State := s.holdLdu1.expect .p25Ldu2 90

/-- NAC: the low 12 bits of the NID read most significant byte first (R212). -/
def nacOf (nid : List Byte) : BitVec 12 := BitVec.ofNat 12 (bytesField nid)

/-- The five tags of a P25 record (R214). -/
def p25Tags (nid : List Byte) (f : Config.P25Fields) : List Tag :=
  [.nac (nacOf nid), .source f.source, .destination f.destination, .talkgroup f.talkgroup,
   .encrypted f.encrypted]

/-- `complete(P25_LDU2)` (R214). -/
def completeP25Ldu2 (s : State) : State :=
  (s.emit (.frame .p25Voice s.ldu1reg (p25Tags s.nidreg (Config.p25Fields s.ldu1reg s.fb)))).endFrame

end Sys2Proof.Machine
end

