-- ==== Sys2Proof/Machine/Pocsag.lean ====
section
/-! DEFINITION. The POCSAG deframer (47_pocsag.md). -/

namespace Sys2Proof.Machine

/-- `on_sync(0)` for POCSAG (R230). -/
def onSyncPocsag (s : State) : State := (s.dropUnits 32).expect .pocsagBatch 512

/-! ## BCH(31,21) (R233) -/

/-- g(x) = x^10 + x^9 + x^8 + x^6 + x^5 + x^3 + 1 (PRESUMED by the spec, log entry 12). -/
def bchPoly : BitVec 31 := 0x769

/-- One step of the division by g: clear the coefficient of x^i, for i >= 10. -/
def bchStep (v : BitVec 31) (i : Nat) : BitVec 31 :=
  if v.getLsbD i then v ^^^ (bchPoly <<< (i - 10)) else v

/-- syn(cw): the remainder of cw[31:1] divided by g, over GF(2) (R233). -/
def syn (cw : BitVec 32) : BitVec 10 :=
  (((List.range 21).map (fun j => 30 - j)).foldl bchStep (cw.extractLsb' 1 31)).setWidth 10

/-- cw XOR 2^p. -/
def flipBit (cw : BitVec 32) (p : Nat) : BitVec 32 := cw ^^^ (1#32 <<< p)

/-- The candidate positions of R233: 30 down to 11. -/
def bchCandidates : List Nat := (List.range 20).map (fun j => 30 - j)

/-- `bch_correct(cw)`; `none` is ERR (R233). -/
def bchCorrect (cw : BitVec 32) : Option (BitVec 32) :=
  if syn cw = 0 then some cw
  else (bchCandidates.find? (fun p => syn (flipBit cw p) == 0)).map (flipBit cw)

/-- The parity option: with POCSAG_CHECK_PARITY an odd corrected codeword is ERR (R234). -/
def parityChecked (check : Bool) (c : Option (BitVec 32)) : Option (BitVec 32) :=
  match c with
  | none => none
  | some cw => if check && decide (popcount cw % 2 = 1) then none else some cw

/-! ## Classes (R235) -/

/-- The idle codeword. -/
def idleCodeword : BitVec 32 := 0x7A89C197

/-- `c` is classified ADDR: the IDLE test comes before the flag test. -/
def isAddr (c : Option (BitVec 32)) : Bool :=
  match c with
  | none => false
  | some cw => cw != idleCodeword && !cw.getLsbD 31

/-- `c` is classified MSG. -/
def isMsg (c : Option (BitVec 32)) : Bool :=
  match c with
  | none => false
  | some cw => cw != idleCodeword && cw.getLsbD 31

/-! ## Pages -/

/-- ADDRESS of an address codeword at batch position `k`: (c[30:13] << 3) OR floor(k/2) (R236). -/
def pageAddress (k : Nat) (cw : BitVec 32) : BitVec 21 :=
  ((cw.extractLsb' 13 18).setWidth 21 <<< 3) ||| BitVec.ofNat 21 (k / 2)

/-- FUNCTION: c[12:11] (R236). -/
def pageFunction (cw : BitVec 32) : BitVec 2 := cw.extractLsb' 11 2

/-- The 20 data bits of a codeword, bit 30 first (R237). -/
def dataBits (c : Option (BitVec 32)) : List Bool :=
  match c with
  | none => []
  | some cw => bchCandidates.map (fun t => cw.getLsbD t)

/-- The message bits after an address codeword, from the codewords that follow it in the batch (R237). -/
def messageBits (following : List (Option (BitVec 32))) : List Bool :=
  (following.takeWhile isMsg).flatMap dataBits

/-- The characters of a message (R238; the bit order is PRESUMED by the spec, log entry 12). -/
def pageText (bits : List Bool) : List Byte :=
  (fullGroups 7 bits).map (fun g => BitVec.ofNat 8 (bitsLsbFirst g))

/-- `page(k)` of the codeword at position `k` with the codewords after it (R239). -/
def pageRecord (k : Nat) (cw : BitVec 32) (following : List (Option (BitVec 32))) : Record :=
  let text := pageText (messageBits following)
  .frame .pocsagPage text [.address (pageAddress k cw), .function (pageFunction cw), .message text]

/-- The records of a batch from position `k` on, in increasing position (R231): one for each ADDR. -/
def batchRecords : Nat → List (Option (BitVec 32)) → List Record
  | _, [] => []
  | k, c :: following =>
    match c with
    | none => batchRecords (k + 1) following
    | some cw =>
      if isAddr (some cw) then pageRecord k cw following :: batchRecords (k + 1) following
      else batchRecords (k + 1) following

/-- cw[k] from the 512 collected bits (R231). -/
def batchCodeword (fb : List Byte) (k : Nat) : BitVec 32 :=
  BitVec.ofNat 32 (unitsField ((fb.drop (32 * k)).take 32))

/-- The 16 codewords of a batch, corrected, ERR where they cannot be (R231, R233, R234). -/
def batchCodewords (check : Bool) (fb : List Byte) : List (Option (BitVec 32)) :=
  (List.range 16).map (fun k => parityChecked check (bchCorrect (batchCodeword fb k)))

/-- `complete(POCSAG_BATCH)` (R231). -/
def completePocsagBatch (s : State) : State :=
  (s.emitAll (batchRecords 0 (batchCodewords s.params.checkParity s.fb))).endFrame

end Sys2Proof.Machine
end

