-- ==== Sys2Proof/Machine/Ysf.lean ====
section
/-! DEFINITION. The YSF deframer (46_ysf.md). -/

namespace Sys2Proof.Machine

/-- `on_sync(0)` for YSF (R220). -/
def onSyncYsf (s : State) : State := (s.dropUnits 2).expect .ysfFich 5

/-- FICHREG <- FB; FB <- [] (R221). -/
def State.holdFich (s : State) : State := { s with fichreg := s.fb, fb := [] }

/-- `complete(YSF_FICH)` (R221). -/
def completeYsfFich (s : State) : State := s.holdFich.expect .ysfVoice 144

/-- The tags of a YSF record (R222): CALLSIGNS is there when the draw is a string (R223). -/
def ysfTags (f : Config.FichFields) (draw : Option (List Byte)) : List Tag :=
  [.frameType f.frameType, .radioId f.radioId, .groupId f.groupId] ++
  (match draw with
   | none => []
   | some cs => [.callsigns cs])

/-- One YSF_CALLSIGNS draw of this channel has been made; its next one is another (R223; DESIGN CHOICE, log
entry 3). -/
def State.countDraw (s : State) : State := { s with draws := s.draws + 1 }

/-- `complete(YSF_VOICE)` (R222). The draw is keyed by the channel and by the channel's own count of draws, so every
emission of every channel has a draw of its own (R223; DESIGN CHOICE, log entry 3). -/
def completeYsfVoice (s : State) : State :=
  (s.countDraw.emit
    (.frame .ysfVoice s.fb
      (ysfTags (Config.ysfFichFields s.fichreg) (Config.ysfCallsigns s.channel s.draws)))).endFrame

end Sys2Proof.Machine
end

