-- ==== Sys2Proof/Machine/Deframer.lean ====
section
/-! DEFINITION. The RUN loop of the sync personalities (42_deframer_common.md R160 to R162). -/

namespace Sys2Proof.Machine

/-- What one pass of the loop does: go round again, or return. -/
inductive Pass where
  | again (s : State)
  | stop (s : State)
deriving DecidableEq, Repr

/-- `on_sync(p)` of the channel's personality (R146). -/
def State.onSync (p : Nat) (s : State) : State :=
  match s.personality with
  | some .m17 => onSyncM17 p s
  | some .dstar => onSyncDstar s
  | some .p25 => onSyncP25 s
  | some .ysf => onSyncYsf s
  | some .pocsag => onSyncPocsag s
  | some .dsssEnc => s
  | some .dsssDec => s
  | none => s

/-- `complete(S)` for S = DSTATE (R162); the states that collect nothing have none. -/
def State.complete (s : State) : State :=
  match s.dstate with
  | .m17Lsf => completeM17Lsf s
  | .m17Pkt => completeM17Pkt s
  | .dstarHeader => completeDstarHeader s
  | .dstarVoice => completeDstarVoice s
  | .p25Nid => completeP25Nid s
  | .p25Ldu1 => completeP25Ldu1 s
  | .p25Ldu2 => completeP25Ldu2 s
  | .ysfFich => completeYsfFich s
  | .ysfVoice => completeYsfVoice s
  | .pocsagBatch => completePocsagBatch s
  | .idle => s
  | .syncSearch => s
  | .dstarSynced => s
  | .dsssStream => s

/-- The SYNC_SEARCH step (R146, R147). -/
def searchPass (s : State) : Pass :=
  match s.search with
  | none => .stop s
  | some (o, p) => .again ((s.dropUnits o).onSync p)

/-- The DSTAR_SYNCED step (R191). -/
def choosePass (s : State) : Pass :=
  match s.dstarChoose with
  | none => .stop s
  | some t => .again t

/-- The step of a collecting state (R161, R162). -/
def collectPass (s : State) : Pass :=
  if s.collect.fb.length = s.collect.exp then .again s.collect.complete else .stop s.collect

/-- One pass of the loop of R160. -/
def deframePass (s : State) : Pass :=
  match s.dstate with
  | .syncSearch => searchPass s
  | .dstarSynced => choosePass s
  | .m17Lsf => collectPass s
  | .m17Pkt => collectPass s
  | .dstarHeader => collectPass s
  | .dstarVoice => collectPass s
  | .p25Nid => collectPass s
  | .p25Ldu1 => collectPass s
  | .p25Ldu2 => collectPass s
  | .ysfFich => collectPass s
  | .ysfVoice => collectPass s
  | .pocsagBatch => collectPass s
  | .idle => .stop s
  | .dsssStream => .stop s

/-- At most `k` passes of the loop. -/
def deframeLoop : Nat → State → State
  | 0, s => s
  | k + 1, s =>
    match deframePass s with
    | .again t => deframeLoop k t
    | .stop t => t

/-- `deframe_run()` (R160): passes until one returns. R168 bounds them by 3*|IB| + 3, and
Laws/Run.lean proves that this many always suffice. -/
def deframeRun (s : State) : State := deframeLoop (3 * s.ib.length + 3) s

end Sys2Proof.Machine
end

