-- ==== Sys2Proof/Machine/Dsss.lean ====
section
/-! DEFINITION. The DSSS spreader and correlator (48_dsss.md). -/

namespace Sys2Proof.Machine

/-! ## Spreader -/

/-- The chips of one input bit: c_j XOR (1 - b) (R250, R251). -/
def spreadBit (code : List Byte) (b : Byte) : List Byte := code.map (fun c => c ^^^ (1 - b))

/-- IB <- [] (R250: every bit held is consumed). -/
def State.emptyIb (s : State) : State := { s with ib := [] }

/-- `spread_run()` (R250). -/
def spreadRun (s : State) : State :=
  (s.emitAll (s.ib.map (fun b => Record.chips (spreadBit s.code b)))).emptyIb

/-! ## Correlator -/

/-- a_j = 2 * c_j - 1 (R254). -/
def antipodal (c : Byte) : Int := 2 * (c.toNat : Int) - 1

/-- The sum over the code of a_j times the sum of chip j's sub-window of `S` samples, for the component
`comp` (R255, R256). -/
def correlate (comp : Sample → Int) (S : Nat) : List Byte → List Sample → Int
  | [], _ => 0
  | c :: cs, x => antipodal c * ((x.take S).map comp).sum + correlate comp S cs (x.drop S)

/-- The record of one symbol period (R255, R258). -/
def corrRecord (code : List Byte) (S : Nat) (x : List Sample) : Record :=
  .corr (correlate (fun a => sext12 a.i) S code x) (correlate (fun a => sext12 a.q) S code x)
    (code.length * S)

/-- P = L * S (R255). -/
def State.symbolPeriod (s : State) : Nat := s.code.length * s.cfg.dsssSps.toNat

/-- The records of `n` symbol periods of `P` samples from the front of SB, in order (R255, R258). -/
def symbolRecords (code : List Byte) (S P : Nat) : Nat → List Sample → List Record
  | 0, _ => []
  | n + 1, sb => corrRecord code S (sb.take P) :: symbolRecords code S P n (sb.drop P)

/-- SB <- drop(SB, n). -/
def State.dropSamples (n : Nat) (s : State) : State := { s with sb := s.sb.drop n }

/-- `correlate_run()` (R255): |SB|/P whole symbol periods, the rest kept (R257). With P = 0, which
CONSTRUCT never lets happen, there is none. -/
def correlateRun (s : State) : State :=
  let P := s.symbolPeriod
  let n := s.sb.length / P
  (s.emitAll (symbolRecords s.code s.cfg.dsssSps.toNat P n s.sb)).dropSamples (n * P)

end Sys2Proof.Machine
end

