-- ==== Sys2Proof/Machine/Process.lean ====
section
/-! DEFINITION. The meanings of RUN, RESET, CLEAR and RDREG (40_commands.md sections 3 and 4). -/

namespace Sys2Proof.Machine

/-- The procedure RUN performs for the channel's personality (R118). -/
def State.runProcedure (s : State) : State :=
  match s.personality with
  | some .m17 => deframeRun s
  | some .dstar => deframeRun s
  | some .p25 => deframeRun s
  | some .ysf => deframeRun s
  | some .pocsag => deframeRun s
  | some .dsssEnc => spreadRun s
  | some .dsssDec => correlateRun s
  | none => s

/-- RUN (R118). -/
def execRun (s : State) : Host.Outcome State Fault Refusal :=
  if !s.isReady then raiseNext .seqErr s
  else .next s.runProcedure

/-- Where RESET puts DSTATE (R119). -/
def State.resetTarget (s : State) : DState :=
  match s.personality with
  | some p => p.startState
  | none => s.dstate

/-- RESET (R119). -/
def execReset (s : State) : Host.Outcome State Fault Refusal :=
  if !s.isReady then raiseNext .seqErr s
  else .next (s.restartData s.resetTarget)

/-- CLEAR (R120). -/
def execClear (s : State) : Host.Outcome State Fault Refusal := .next s.toReset

/-- RDREG r (R121): RDATA <- zext_32(reg[r]). -/
def execRdreg (r : BitVec 4) (s : State) : Host.Outcome State Fault Refusal :=
  if 12 < r.toNat then raiseNext .illegalCmd s
  else .next (s.setRdata ((s.readReg r.toNat).setWidth 32))

end Sys2Proof.Machine
end

