-- ==== Sys2Proof/Machine/Dispatch.lean ====
section
/-! DEFINITION. One arm for each command. -/

namespace Sys2Proof.Machine

def exec (i : Instr) (s : State) : Host.Outcome State Fault Refusal :=
  match i with
  | .nop => Sys2Proof.Machine.execNop s
  | .wrcfg r v => Sys2Proof.Machine.execWrcfg r v s
  | .wrcode c => Sys2Proof.Machine.execWrcode c s
  | .construct => Sys2Proof.Machine.execConstruct s
  | .push u => Sys2Proof.Machine.execPush u s
  | .pushs ip qp => Sys2Proof.Machine.execPushs ip qp s
  | .run => Sys2Proof.Machine.execRun s
  | .reset => Sys2Proof.Machine.execReset s
  | .clear => Sys2Proof.Machine.execClear s
  | .rdreg r => Sys2Proof.Machine.execRdreg r s

end Sys2Proof.Machine
end

