-- ==== Sys2Proof/Machine/Port.lean ====
section
/-! DEFINITION. The command port and the reset input (R80, R284, R290): what the channel does with the next
thing the outside applied. There is no program counter and no instruction memory (R73, R291). -/

namespace Sys2Proof.Machine

/-- Run one command word: an illegal word raises ILLEGAL_CMD and is checked no further (R270, R277). -/
def runWord (w : Word) (s : State) : Host.Outcome State Fault Refusal :=
  match decode w with
  | .ok i => exec i s
  | .error _ => raiseNext .illegalCmd s

/-- Take one event: a command word, or the reset input. -/
def runEvent (e : HostEvent) (s : State) : Host.Outcome State Fault Refusal :=
  match e with
  | .command w => runWord w s
  | .hardReset => .next s.hardReset

/-- The port with its oldest event taken. -/
def State.withPort (p : List HostEvent) (s : State) : State := { s with port := p }

/-- Take the oldest event; with none, the channel idles and holds its state (R282, R291). -/
def runNext (s : State) : Host.Outcome State Fault Refusal :=
  match s.port with
  | [] => .next s
  | e :: rest => runEvent e (s.withPort rest)

/-- The state with one more command word before everything the port holds. -/
def State.presentWord (w : Word) (s : State) : State := s.withPort (.command w :: s.port)

/-- The outcome of a list of command words, run in order from a state whose port is left alone (R70). -/
def runWords : List Word → State → Host.Outcome State Fault Refusal
  | [], s => .next s
  | w :: ws, s =>
    match runWord w s with
    | .next t => runWords ws t
    | .fault r => .fault r
    | .refused r => .refused r

end Sys2Proof.Machine
end

