-- ==== Sys2Proof/Machine/Step.lean ====
section
/-! DEFINITION. One step of the channel, and where its next command is placed. -/

namespace Sys2Proof.Machine

/-- One command, or one reset pulse, or nothing (R70, R282, R290). -/
def step (s : State) : Host.Outcome State Fault Refusal := runNext s

/-- `s` with the command of `nbits` bits `w`, every higher bit 0, as the next word of the command port. -/
def State.withFetchWord (s : State) (nbits w : Nat) : State :=
  s.presentWord (BitVec.ofNat 32 (w % 2 ^ nbits))

end Sys2Proof.Machine
end

