-- ==== Sys2Proof/Machine/Assembler.lean ====
section
/-! DEFINITION. The assembler syntax and the pseudo-instructions of 30_encoding.md section 4 (R87, R88). The
channel runs words only; this is how the spec writes them. A program text is a list of characters. -/

namespace Sys2Proof.Machine

/-! ## Numbers and names (R87) -/

/-- The value of a hexadecimal digit. -/
def hexDigit (c : Char) : Option Nat :=
  if '0' ≤ c ∧ c ≤ '9' then some (c.toNat - '0'.toNat)
  else if 'a' ≤ c ∧ c ≤ 'f' then some (c.toNat - 'a'.toNat + 10)
  else if 'A' ≤ c ∧ c ≤ 'F' then some (c.toNat - 'A'.toNat + 10)
  else none

/-- The value of a decimal digit. -/
def decDigit (c : Char) : Option Nat :=
  if '0' ≤ c ∧ c ≤ '9' then some (c.toNat - '0'.toNat) else none

/-- The value of digits in a base, most significant first, after the digits already read. -/
def readDigits (digit : Char → Option Nat) (base : Nat) : Nat → List Char → Option Nat
  | acc, [] => some acc
  | acc, c :: cs =>
    match digit c with
    | some d => readDigits digit base (acc * base + d) cs
    | none => none

/-- A number: decimal, or hexadecimal with the prefix 0x; at least one digit. -/
def readNat : List Char → Option Nat
  | [] => none
  | '0' :: 'x' :: c :: cs => readDigits hexDigit 16 0 (c :: cs)
  | cs => readDigits decDigit 10 0 cs

/-- A number with an optional leading minus sign, for the operands of PUSHS alone. -/
def readInt : List Char → Option Int
  | '-' :: cs => (readNat cs).map (fun n => - (n : Int))
  | cs => (readNat cs).map (fun n => (n : Int))

/-- The value a name stands for in a table. -/
def lookupName (table : List (List Char × Nat)) (name : List Char) : Option Nat :=
  match table with
  | [] => none
  | (n, v) :: rest => if n = name then some v else lookupName rest name

/-- The register names. -/
def registerNames : List (List Char × Nat) :=
  [("PROTO".toList, 0), ("THRESH".toList, 1), ("BUFCAP".toList, 2), ("M17_MAXLEN".toList, 3),
   ("POCSAG_BAUD".toList, 4), ("DSSS_SPS".toList, 5), ("CODE_LEN".toList, 6), ("STATUS".toList, 7),
   ("ERRCODE".toList, 8), ("STATE".toList, 9), ("IB_LEN".toList, 10), ("FB_LEN".toList, 11),
   ("OUT_COUNT".toList, 12)]

/-- The personality names, which may stand for PROTO values. -/
def personalityNames : List (List Char × Nat) :=
  [("M17".toList, 1), ("DSTAR".toList, 2), ("P25".toList, 3), ("YSF".toList, 4), ("POCSAG".toList, 5),
   ("DSSS_ENC".toList, 6), ("DSSS_DEC".toList, 7)]

/-! ## One line -/

/-- The text before a comment. -/
def dropComment (line : List Char) : List Char := line.takeWhile (fun c => c != ';')

/-- A blank. -/
def isBlank (c : Char) : Bool := c == ' ' || c == '\t'

/-- Without blanks at either end. -/
def strip (cs : List Char) : List Char :=
  ((cs.dropWhile isBlank).reverse.dropWhile isBlank).reverse

/-- The pieces between commas, each without blanks at its ends. -/
def splitOperands : List Char → List Char → List (List Char)
  | cur, [] => [strip cur.reverse]
  | cur, ',' :: cs => strip cur.reverse :: splitOperands [] cs
  | cur, c :: cs => splitOperands (c :: cur) cs

/-- The operands of a line, after its mnemonic; no text is no operand. -/
def operandsOf (cs : List Char) : List (List Char) :=
  if strip cs = [] then [] else splitOperands [] cs

/-- A value with an upper bound; a value out of range is refused, not cut. -/
def bounded (limit n : Nat) : Option Nat := if n < limit then some n else none

/-- The value operand of WRCFG: a number below 2^24, or a personality name for PROTO. -/
def cfgValue (r : Nat) (op : List Char) : Option Nat :=
  match readNat op with
  | some n => bounded (2 ^ 24) n
  | none => if r = 0 then lookupName personalityNames op else none

/-- A PUSHS operand: -2048..2047, as its 12-bit pattern. -/
def sampleValue (op : List Char) : Option (BitVec 12) :=
  match readInt op with
  | some n => if -2048 ≤ n ∧ n ≤ 2047 then some (BitVec.ofInt 12 n) else none
  | none => none

/-- A byte operand, 0..255. -/
def byteValue (op : List Char) : Option Byte :=
  ((readNat op).bind (bounded 256)).map (BitVec.ofNat 8)

/-- `f` of every element, if it answers for each. -/
def allSome {α β : Type} (f : α → Option β) : List α → Option (List β)
  | [] => some []
  | x :: xs =>
    match f x, allSome f xs with
    | some y, some ys => some (y :: ys)
    | _, _ => none

/-! ## Pseudo-instructions (R88) -/

/-- The pseudo-instructions with their operands. -/
inductive Pseudo where
  | pushBytes (bs : List Byte)
  | pushFill (v : Byte) (n : Nat)
  | pushBits (w n : Nat)
  | pushBits32 (w : Nat)
  | wrCodes (cs : List Byte)
  | chunk (bs : List Byte)
deriving DecidableEq, Repr

/-- PUSH w[n-1], ..., PUSH w[0]: n unpacked bits, most significant first (R88). The rule gives `w` no range: bits
from n on are not looked at (DESIGN CHOICE, log entry 11). -/
def pushBitsOf (w n : Nat) : List Instr :=
  (List.range n).map (fun i => Instr.push (if w.testBit (n - 1 - i) then 1 else 0))

/-- The commands a pseudo-instruction expands to, in order (R88); PUSHBITS32 takes whatever PUSHBITS takes
(DESIGN CHOICE, log entry 11). -/
def expand : Pseudo → List Instr
  | .pushBytes bs => bs.map Instr.push
  | .pushFill v n => List.replicate n (Instr.push v)
  | .pushBits w n => pushBitsOf w n
  | .pushBits32 w => pushBitsOf w 32
  | .wrCodes cs => cs.map Instr.wrcode
  | .chunk bs => bs.map Instr.push ++ [Instr.run]

/-! ## A line to commands -/

/-- The command of a mnemonic without operands. -/
def bareCommand (m : List Char) : Option Instr :=
  if m = "NOP".toList then some .nop
  else if m = "CONSTRUCT".toList then some .construct
  else if m = "RUN".toList then some .run
  else if m = "RESET".toList then some .reset
  else if m = "CLEAR".toList then some .clear
  else none

/-- The commands of a mnemonic with one operand or more; a refused operand refuses the line (R87). -/
def commandWith (m : List Char) (ops : List (List Char)) : Option (List Instr) :=
  match ops with
  | [a] =>
    if m = "WRCODE".toList then (byteValue a).map (fun c => [Instr.wrcode c])
    else if m = "PUSH".toList then (byteValue a).map (fun u => [Instr.push u])
    else if m = "RDREG".toList then
      (lookupName registerNames a).map (fun r => [Instr.rdreg (BitVec.ofNat 4 r)])
    else if m = "PUSHBITS32".toList then
      (readNat a).map (fun w => expand (.pushBits32 w))
    else listCommand m ops
  | [a, b] =>
    if m = "WRCFG".toList then
      ((lookupName registerNames a).bind (bounded 6)).bind (fun r =>
        (cfgValue r b).map (fun v => [Instr.wrcfg (BitVec.ofNat 4 r) (BitVec.ofNat 24 v)]))
    else if m = "PUSHS".toList then
      (sampleValue a).bind (fun i => (sampleValue b).map (fun q => [Instr.pushs i q]))
    else if m = "PUSHFILL".toList then
      (byteValue a).bind (fun v => (readNat b).map (fun n => expand (.pushFill v n)))
    else if m = "PUSHBITS".toList then
      (readNat a).bind (fun w => (readNat b).map (fun n => expand (.pushBits w n)))
    else listCommand m ops
  | _ => listCommand m ops
where
  /-- The pseudo-instructions that take a list of bytes. The list has one byte at least: with none the line is
  refused (DESIGN CHOICE, log entry 11). -/
  listCommand (m : List Char) (ops : List (List Char)) : Option (List Instr) :=
    if m = "PUSHBYTES".toList then (allSome byteValue ops).map (fun bs => expand (.pushBytes bs))
    else if m = "WRCODES".toList then (allSome byteValue ops).map (fun bs => expand (.wrCodes bs))
    else if m = "CHUNK".toList then (allSome byteValue ops).map (fun bs => expand (.chunk bs))
    else none

/-- The commands of one line of assembly: none for an empty line, and `none` where it is refused (R87). PUSHBYTES,
WRCODES and CHUNK without an operand are refused: the spec does not say (DESIGN CHOICE, log entry 11). -/
def assembleLine (line : List Char) : Option (List Instr) :=
  let text := strip (dropComment line)
  let m := text.takeWhile (fun c => !isBlank c)
  match operandsOf (text.drop m.length) with
  | [] => if m = [] then some [] else (bareCommand m).map (fun i => [i])
  | ops => commandWith m ops

/-- The words of a program, line by line; one refused line refuses it all. -/
def assemble (lines : List (List Char)) : Option (List Word) :=
  (allSome assembleLine lines).map (fun is => (is.flatten).map encode)

end Sys2Proof.Machine
end

