-- ==== Sys2Proof/Machine/System.lean ====
section
/-! DEFINITION. A system of NUM_CHANNELS channels that share no state (R1, R72, R285). How the host addresses a
channel is outside the spec; here it is the channel's number. -/

namespace Sys2Proof.Machine

/-- The channels of a system. -/
abbrev System := List State

/-- The power-on state of channel `k` of a system: its number tells its YSF_CALLSIGNS draws from those of the other
channels (R223; DESIGN CHOICE, log entry 3). -/
def State.resetOf (k : Nat) : State := { State.reset with channel := k }

/-- Every channel at hard reset. -/
def systemReset : System := (List.range Config.numChannels).map State.resetOf

/-- One step of channel `k`, or nothing where there is no channel `k`; every other channel as it was (R72). -/
def systemStep (k : Nat) (sys : System) : Host.Outcome System Fault Refusal :=
  match sys[k]? with
  | none => .next sys
  | some s =>
    match step s with
    | .next t => .next (sys.set k t)
    | .fault r => .fault r
    | .refused r => .refused r

end Sys2Proof.Machine
end

