-- ==== Sys2Proof/Safety.lean ====
section
/-! DEFINITION. What a claim may ask of a state and of a run: the invariant of 10_state.md, and a run in which
nothing stops. -/

namespace Sys2Proof.Machine

/-- The states in which units are being collected (R160). -/
def DState.collecting : DState → Bool
  | .idle | .syncSearch | .dstarSynced | .dsssStream => false
  | .m17Lsf | .m17Pkt | .dstarHeader | .dstarVoice | .p25Nid | .p25Ldu1 | .p25Ldu2 | .ysfFich
  | .ysfVoice | .pocsagBatch => true

/-- EXP in each DSTATE (R38). -/
def expectedLength (c : Cfg) : DState → Nat
  | .m17Lsf => 48
  | .m17Pkt => c.m17Maxlen.toNat
  | .dstarHeader => 41
  | .dstarVoice => 15
  | .p25Nid => 8
  | .p25Ldu1 => 90
  | .p25Ldu2 => 90
  | .ysfFich => 5
  | .ysfVoice => 144
  | .pocsagBatch => 512
  | .idle | .syncSearch | .dstarSynced | .dsssStream => 0

/-- The personalities DSTATE belongs to once CONSTRUCT has succeeded (R37). -/
def DState.fits : DState → Personality → Bool
  | .idle, _ => false
  | .syncSearch, p => p.isSync
  | .m17Lsf, p | .m17Pkt, p => p == .m17
  | .dstarSynced, p | .dstarHeader, p | .dstarVoice, p => p == .dstar
  | .p25Nid, p | .p25Ldu1, p | .p25Ldu2, p => p == .p25
  | .ysfFich, p | .ysfVoice, p => p == .ysf
  | .pocsagBatch, p => p == .pocsag
  | .dsssStream, p => p.isDsss

/-- Every unit is an unpacked bit (R60). -/
def unitsAreBits (us : List Byte) : Bool := us.all (fun u => decide (u.toNat ≤ 1))

/-- The length NIDREG has in each DSTATE: 8 from the NID's completion to the frame's end (R41). -/
def nidLength : DState → Nat
  | .p25Ldu1 | .p25Ldu2 => 8
  | _ => 0

/-- The length LDU1REG has in each DSTATE (R41). -/
def ldu1Length : DState → Nat
  | .p25Ldu2 => 90
  | _ => 0

/-- The length FICHREG has in each DSTATE (R41). -/
def fichLength : DState → Nat
  | .ysfVoice => 5
  | _ => 0

/-- ERRCODE and LC agree (R31, R275). -/
def errcodeFits (lc : Lifecycle) (e : ErrCode) : Prop :=
  match lc with
  | .unconfigured => e = .none
  | .cfgError => e ≠ .none
  | .ready => e = .none

/-- Outside READY the deframing and DSSS state holds its reset value (R21). -/
structure State.DataAtReset (s : State) : Prop where
  dstate_idle : s.dstate = .idle
  ib_empty : s.ib = []
  sb_empty : s.sb = []
  fb_empty : s.fb = []
  exp_zero : s.exp = 0
  nid_empty : s.nidreg = []
  ldu1_empty : s.ldu1reg = []
  fich_empty : s.fichreg = []
  sdacc_empty : s.sdacc = []
  outCount_zero : s.outCount = 0

/-- What holds of a constructed channel of personality `p` between two commands. -/
structure State.ReadyFor (s : State) (p : Personality) : Prop where
  /-- The configuration is one CONSTRUCT accepted (R20, R114). -/
  config_ok : checkConfig s.cfg s.code = .ok p
  /-- DSTATE is one of the personality's (R37). -/
  dstate_fits : s.dstate.fits p = true
  /-- EXP is the expected length of DSTATE (R38). -/
  exp_eq : s.exp = expectedLength s.cfg s.dstate
  /-- FB holds part of a frame while one is collected (R40, R167). -/
  fb_partial : s.dstate.collecting = true → s.fb.length < s.exp
  /-- FB is empty otherwise (R40). -/
  fb_empty : s.dstate.collecting = false → s.fb = []
  /-- The cap on IB (R62). -/
  ib_capped : s.ib.length ≤ s.cfg.bufcap.toNat
  /-- The cap on SB (R63). -/
  sb_capped : s.sb.length ≤ s.cfg.bufcap.toNat
  /-- Only DSSS_DEC has samples (R43, R271). -/
  sb_unused : p ≠ .dsssDec → s.sb = []
  /-- DSSS_DEC has no units (R271). -/
  ib_unused : p = .dsssDec → s.ib = []
  /-- The units of a bit personality are bits, in IB and in FB (R39, R253). -/
  bits_only : p.isBit = true → unitsAreBits s.ib = true ∧ unitsAreBits s.fb = true
  /-- NIDREG (R41). -/
  nid_length : s.nidreg.length = nidLength s.dstate
  /-- LDU1REG (R41). -/
  ldu1_length : s.ldu1reg.length = ldu1Length s.dstate
  /-- FICHREG (R41). -/
  fich_length : s.fichreg.length = fichLength s.dstate
  /-- SDACC holds at most DSTAR_SD_CAP bits (R197). -/
  sdacc_capped : s.sdacc.length ≤ Config.dstarSdCap
  /-- SDACC holds whole slow-data groups of 24 bits (R196). -/
  sdacc_groups : s.sdacc.length % 24 = 0
  /-- Only D-STAR has slow data (R42). -/
  sdacc_unused : p ≠ .dstar → s.sdacc = []

/-- The invariant of 10_state.md: what holds between two commands of every run. -/
structure State.Inv (s : State) : Prop where
  /-- CODE holds at most CODE_MAX chips (R28). -/
  code_capped : s.code.length ≤ Config.codeMax
  errcode_fits : errcodeFits s.lc s.errcode
  not_ready : s.lc ≠ .ready → s.DataAtReset
  ready : s.lc = .ready → ∃ p, s.ReadyFor p

/-- The outcome is a next state: nothing stopped. -/
def Completes (o : Host.Outcome State Fault Refusal) : Prop := ∃ t, o = .next t

/-- `k` steps from `s` in which nothing stops. -/
def SafeRun (k : Nat) (s : State) : Prop :=
  match k with
  | 0 => True
  | k + 1 => ∃ t, step s = .next t ∧ SafeRun k t

end Sys2Proof.Machine
end

