-- ==== Sys2Proof/Certificates/Slice0/Obligations.lean ====
section
/-! DEFINITION. The statements for the provers, and the words they are written in: the tables and formulas of
spec/ set down again from its text, apart from the model's own definitions. -/

namespace Sys2Proof.Claims

open Sys2Proof.Machine

/-! ## Words of the statements -/

/-- A word outside the assigned encodings: the three cases of R270, by the fields of R80 as numbers. -/
def illegalWord (w : Nat) : Prop :=
  let op := w / 2 ^ 28
  let r := w / 2 ^ 24 % 16
  let imm := w % 2 ^ 24
  10 ≤ op ∨
  ((op = 0 ∨ op = 3 ∨ op = 6 ∨ op = 7 ∨ op = 8) ∧ (r ≠ 0 ∨ imm ≠ 0)) ∨
  ((op = 2 ∨ op = 4) ∧ (r ≠ 0 ∨ imm / 2 ^ 8 ≠ 0)) ∨
  (op = 5 ∧ r ≠ 0) ∨
  (op = 9 ∧ (imm ≠ 0 ∨ 12 < r)) ∨
  (op = 1 ∧ 5 < r)

/-- The table of R271: where a well-formed command is allowed. -/
def allowed (i : Instr) (s : State) : Prop :=
  match i with
  | .nop | .clear | .rdreg _ => True
  | .wrcfg _ _ | .wrcode _ | .construct => s.lc = .unconfigured ∨ s.lc = .cfgError
  | .push _ => s.lc = .ready ∧ s.cfg.proto ≠ 7
  | .pushs _ _ => s.lc = .ready ∧ s.cfg.proto = 7
  | .run | .reset => s.lc = .ready

/-- STATUS bit 2 set and nothing else (R272). -/
def illegalCmdRaised (s : State) : State := { s with sticky := { s.sticky with illegalCmd := true } }

/-- STATUS bit 3 set and nothing else (R272). -/
def seqErrRaised (s : State) : State := { s with sticky := { s.sticky with seqErr := true } }

/-- STATUS bit 4 set and nothing else (R272). -/
def inputErrRaised (s : State) : State := { s with sticky := { s.sticky with inputErr := true } }

/-- STATUS bit 5 set and nothing else (R272). -/
def codeOvfRaised (s : State) : State := { s with sticky := { s.sticky with codeOvf := true } }

/-- The reset column of 10_state.md section 1, with OUT as given and the model's own fields of `t` (R45). -/
def atReset (out : List Record) (t : State) : State :=
  { lc := .unconfigured
    cfg := { proto := 0, thresh := 0x008000, bufcap := 2000, m17Maxlen := 0, pocsagBaud := 0, dsssSps := 0 }
    code := [], sticky := ⟨false, false, false, false⟩, errcode := .none, dstate := .idle
    ib := [], sb := [], fb := [], exp := 0, nidreg := [], ldu1reg := [], fichreg := [], sdacc := []
    rdata := 0, outCount := 0
    out := out, port := t.port, draws := t.draws, channel := t.channel, params := t.params }

/-- reg[0..5] by number (10_state.md section 3). -/
def cfgReg (c : Cfg) (n : Nat) : Reg :=
  if n = 0 then c.proto else if n = 1 then c.thresh else if n = 2 then c.bufcap
  else if n = 3 then c.m17Maxlen else if n = 4 then c.pocsagBaud else c.dsssSps

/-- W of each PROTO (00_scope.md section 3). -/
def syncWidth (proto : Nat) : Nat :=
  if proto = 2 then 3 else if proto = 3 then 6 else if proto = 5 then 32 else 2

/-- Check `k` of R114 holds of a state, by the numbers in its registers. -/
def checkHolds (k : Nat) (s : State) : Prop :=
  let proto := s.cfg.proto.toNat
  let isSync := 1 ≤ proto ∧ proto ≤ 5
  let isDsss := proto = 6 ∨ proto = 7
  match k with
  | 1 => 1 ≤ proto ∧ proto ≤ 7
  | 2 => isSync → s.cfg.thresh.toNat ≤ 0x8000
  | 3 => 1 ≤ s.cfg.bufcap.toNat ∧ s.cfg.bufcap.toNat ≤ 65535 ∧
      (isSync → syncWidth proto ≤ s.cfg.bufcap.toNat)
  | 4 => proto = 1 → 2 ≤ s.cfg.m17Maxlen.toNat
  | 5 => proto = 5 → s.cfg.pocsagBaud.toNat = 512 ∨ s.cfg.pocsagBaud.toNat = 1200 ∨
      s.cfg.pocsagBaud.toNat = 2400
  | 6 => isDsss → 1 ≤ s.code.length
  | 7 => isDsss → ∀ c ∈ s.code, c = 0 ∨ c = 1
  | 8 => proto = 7 → 1 ≤ s.cfg.dsssSps.toNat
  | 9 => proto = 7 → s.code.length * s.cfg.dsssSps.toNat ≤ s.cfg.bufcap.toNat
  | _ => True

/-- The codes of R37, in the order of its table. -/
def stateCodes : List (DState × Nat) :=
  [(.idle, 0x00), (.syncSearch, 0x01), (.m17Lsf, 0x10), (.m17Pkt, 0x11), (.dstarSynced, 0x20),
   (.dstarHeader, 0x21), (.dstarVoice, 0x22), (.p25Nid, 0x30), (.p25Ldu1, 0x31), (.p25Ldu2, 0x32),
   (.ysfFich, 0x40), (.ysfVoice, 0x41), (.pocsagBatch, 0x50), (.dsssStream, 0x60)]

/-- The ERRCODE values of R275, from 0 on. -/
def errCodes : List ErrCode :=
  [.none, .protoInvalid, .threshRange, .bufcapRange, .m17MaxlenRange, .baudInvalid, .codeEmpty,
   .codeChipRange, .spsRange, .symbolExceedsBufcap]

/-- `v` is what register `n` reads as, before it is cut to 24 bits (R22 to R35). -/
def regReads (s : State) (n v : Nat) : Prop :=
  match n with
  | 6 => v = s.code.length
  | 7 => v = (if s.lc = .ready then 1 else 0) + (if s.lc = .cfgError then 2 else 0) +
      (if s.sticky.illegalCmd then 4 else 0) + (if s.sticky.seqErr then 8 else 0) +
      (if s.sticky.inputErr then 16 else 0) + (if s.sticky.codeOvf then 32 else 0)
  | 8 => errCodes[v]? = some s.errcode
  | 9 => (s.dstate, v) ∈ stateCodes
  | 10 => v = if s.cfg.proto = 7 ∧ s.lc = .ready then s.sb.length else s.ib.length
  | 11 => v = s.fb.length
  | 12 => v = s.outCount.toNat
  | _ => v = (cfgReg s.cfg n).toNat

/-- The pattern lists of 41_sync_detector.md section 1. -/
def pats : Personality → List (List Byte)
  | .m17 => [[0xDF, 0x55], [0x9F, 0xF6]]
  | .dstar => [[0x55, 0x2D, 0x16]]
  | .p25 => [[0x55, 0x75, 0xF5, 0xFF, 0x77, 0xFF]]
  | .ysf => [[0xD4, 0x71]]
  | .pocsag => [[0,1,1,1,1,1,0,0, 1,1,0,1,0,0,1,0, 0,0,0,1,0,1,0,1, 1,1,0,1,1,0,0,0]]
  | _ => []

/-- The positions of one unit that agree: bits k = 0..7 where bits are counted, else the unit (R141, R142). -/
def unitAgrees (bits : Bool) (x y : Byte) : Nat :=
  if bits then (List.range 8).countP (fun k => x.getLsbD k == y.getLsbD k)
  else if x = y then 1 else 0

/-- Bits are counted: BIT mode, and not POCSAG (R141, R142). -/
def countsBits (g : Config.Granularity) (p : Personality) : Bool := g == .bit && p != .pocsag

/-- m(o, p) of R141 and R142, a sum over the positions i < W. -/
def agreeing (g : Config.Granularity) (p : Personality) (buf pat : List Byte) (o : Nat) : Nat :=
  ((List.range pat.length).map
    (fun i => unitAgrees (countsBits g p) (buf.getD (o + i) 0) (pat.getD i 0))).sum

/-- N of R141 and R142. -/
def positions (g : Config.Granularity) (p : Personality) (pat : List Byte) : Nat :=
  if countsBits g p then 8 * pat.length else pat.length

/-- Window `o` is a candidate (R140) and qualifies for `pat` (R143). -/
def accepts (g : Config.Granularity) (p : Personality) (thresh : Nat) (buf pat : List Byte) (o : Nat) : Prop :=
  o + pat.length ≤ buf.length ∧
  thresh * positions g p pat ≤ agreeing g p buf pat o * 32768

/-- The channel is constructed for PROTO `n` and searches for a sync. -/
def searching (s : State) (n : Nat) : Prop :=
  s.Inv ∧ s.lc = .ready ∧ s.cfg.proto.toNat = n ∧ s.dstate = .syncSearch

/-- The search of `s` answers pattern `k` of `p` at the unit after `pre` (R144). -/
def foundAfter (s : State) (p : Personality) (pre : List Byte) (k : Nat) : Prop :=
  searchBuffer s.params.matchGranularity p s.cfg.thresh.toNat s.ib = some (pre.length, k)

/-- `s` after one record is emitted and the units before `rest` are gone. -/
def emitted (s : State) (rest : List Byte) (r : Record) : State :=
  { s with ib := rest, out := s.out ++ [r], outCount := s.outCount + 1 }

/-- RUN from `s` is RUN from `t`; with no unit left after the frame, RUN ends in `t`. -/
def runsThrough (s t : State) (rest : List Byte) : Prop :=
  exec .run s = exec .run t ∧ (rest = [] → exec .run s = .next t)

/-- cw[k] of R231: the first bit received is bit 31. -/
def codewordAt (batch : List Byte) (k : Nat) : BitVec 32 :=
  BitVec.ofNat 32
    (((List.range 32).map (fun i => (batch.getD (32 * k + i) 0).toNat * 2 ^ (31 - i))).sum)

/-- cw'[k] of R231, R233 and R234; `none` is ERR. -/
def corrected (check : Bool) (batch : List Byte) (k : Nat) : Option (BitVec 32) :=
  match bchCorrect (codewordAt batch k) with
  | none => none
  | some c => if check = true ∧ ((List.range 32).countP (fun i => c.getLsbD i)) % 2 = 1 then none else some c

/-- The 20 data bits of cw'[k] when its class is MSG (R235, R237). -/
def msgBits (c : Option (BitVec 32)) : Option (List Bool) :=
  match c with
  | none => none
  | some c =>
    if c = 0x7A89C197 then none
    else if c.getLsbD 31 then some ((List.range 20).map (fun j => c.getLsbD (30 - j))) else none

/-- bits(k) of R237 from position `j` on, looking at `n` more positions. -/
def followingBits (c : Nat → Option (BitVec 32)) : Nat → Nat → List Bool
  | 0, _ => []
  | n + 1, j =>
    match msgBits (c j) with
    | some b => b ++ followingBits c n (j + 1)
    | none => []

/-- The text of R238. -/
def textOf (b : List Bool) : List Byte :=
  (List.range (b.length / 7)).map (fun m =>
    BitVec.ofNat 8 (((List.range 7).map (fun i => (b.getD (7 * m + i) false).toNat * 2 ^ i)).sum))

/-- page(k) of R239 if cw'[k] is classified ADDR (R235), with R236's address and function as numbers. -/
def pageAt (c : Nat → Option (BitVec 32)) (k : Nat) : List Record :=
  match c k with
  | none => []
  | some a =>
    if a ≠ 0x7A89C197 ∧ a.getLsbD 31 = false then
      let text := textOf (followingBits c (15 - k) (k + 1))
      [.frame .pocsagPage text
        [.address (BitVec.ofNat 21 (8 * (a.toNat / 2 ^ 13 % 2 ^ 18) + k / 2)),
         .function (BitVec.ofNat 2 (a.toNat / 2 ^ 11)), .message text]]
    else []

/-- The sum of R255 over the samples from `base` on, for one component. -/
def corrSum (comp : Sample → Int) (code : List Byte) (S : Nat) (sb : List Sample) (base : Nat) : Int :=
  ((List.range code.length).map (fun j =>
    (2 * ((code.getD j 0).toNat : Int) - 1) *
      ((List.range S).map (fun i => comp (sb.getD (base + j * S + i) ⟨0, 0⟩))).sum)).sum

/-- The samples of R262: every chip `e` as (A * (2e - 1), 0), `S` times. -/
def modulate (A : Int) (S : Nat) (chips : List Byte) : List Sample :=
  chips.flatMap (fun e => List.replicate S ⟨BitVec.ofInt 12 (A * (2 * (e.toNat : Int) - 1)), 0⟩)

/-- PUSH words for units. -/
def pushWords (us : List Byte) : List Word := us.map (fun u => encode (.push u))

/-- PUSHS words for samples. -/
def pushsWords (xs : List Sample) : List Word := xs.map (fun x => encode (.pushs x.i x.q))

/-- q(x) times the generator of R233, x^10 + x^9 + x^8 + x^6 + x^5 + x^3 + 1, over GF(2). -/
def timesGenerator (q : BitVec 21) : BitVec 31 :=
  ((List.range 21).map (fun i => if q.getLsbD i then (0b11101101001#31 <<< i) else 0)).foldl (· ^^^ ·) 0

end Sys2Proof.Claims

open Sys2Proof Sys2Proof.Machine Sys2Proof.Claims

/-! ## Encoding -/

/-- R81, R82: no operand bit is lost between a well-formed command and its word. -/
def Obligations.DecodeOfEncodeIsTheCommand : Prop :=
  ∀ i : Instr, i.WellFormed → decode (encode i) = .ok i

/-- R82: a word the decoder accepts is the one word of a well-formed command. -/
def Obligations.DecodedWordIsTheEncoding : Prop :=
  ∀ (w : Word) (i : Instr), decode w = .ok i → i.WellFormed ∧ encode i = w

/-- 30_encoding.md section 5: worked encodings, each word written out from its fields. -/
def Obligations.WorkedEncodingsDecode : Prop :=
  decode 0x00000000 = .ok .nop ∧
  decode 0x120007D0 = .ok (.wrcfg 2 2000) ∧
  decode 0x20000001 = .ok (.wrcode 1) ∧
  decode 0x400000D4 = .ok (.push 0xD4) ∧
  decode 0x50F9C005 = .ok (.pushs (BitVec.ofInt 12 (-100)) 5) ∧
  decode 0x9C000000 = .ok (.rdreg 12) ∧
  decode 0xA0000000 = .error (.reservedOpcode 0xA) ∧
  decode 0x60000001 = .error (.reservedFieldNonzero 6) ∧
  decode 0x16000000 = .error (.badRegisterIndex 6)

/-- 30_encoding.md R87, R88: worked assembly lines and expansions. -/
def Obligations.AssemblerWritesTheWorkedWords : Prop :=
  assemble ["WRCFG PROTO, YSF".toList, "WRCFG THRESH, 0x8000".toList, "PUSHS -100, 5".toList,
    "PUSHS 2047, -2048   ; extremes".toList, "RDREG OUT_COUNT".toList, "CHUNK 0xD4, 0x71".toList,
    "PUSHBITS 5, 3".toList, "WRCODES 1, 0".toList, "PUSHFILL 7, 2".toList]
  = some [0x10000004, 0x11008000, 0x50F9C005, 0x507FF800, 0x9C000000, 0x400000D4, 0x40000071, 0x60000000,
      0x40000001, 0x40000000, 0x40000001, 0x20000001, 0x20000000, 0x40000007, 0x40000007] ∧
  assembleLine "PUSH 256".toList = none ∧ assembleLine "WRCFG CODE_LEN, 0".toList = none

/-! ## Steps -/

/-- R70, R80: the next word of the command port runs as the command it decodes to, on the state without it; so
does a word placed by withFetchWord. Any word runs by `runWord`, and a reset pulse is a hard reset. The port is the
model's choice (log entry 1). -/
def Obligations.StepRunsTheDecodedCommand : Prop :=
  (∀ (s : State) (w : Word) (rest : List HostEvent) (i : Instr),
    s.port = .command w :: rest → decode w = .ok i → step s = exec i { s with port := rest }) ∧
  (∀ (s : State) (w : Nat) (i : Instr),
    decodeTableWord 32 w = some i → step (s.withFetchWord 32 w) = exec i s) ∧
  (∀ (s : State) (w : Word) (rest : List HostEvent),
    s.port = .command w :: rest → step s = runWord w { s with port := rest }) ∧
  (∀ (s : State) (rest : List HostEvent),
    s.port = .hardReset :: rest → step s = .next ({ s with port := rest } : State).hardReset)

/-- R282: with nothing at the command port (the model's choice, log entry 1) the channel holds its state. -/
def Obligations.IdleChannelHoldsItsState : Prop :=
  ∀ s : State, s.port = [] → step s = .next s

/-- R70, R272: every step answers a next state, takes exactly one event from the port (log entry 1),
and leaves the implementation's parameters and the channel's number alone (log entries 2 and 3). -/
def Obligations.EveryStepTakesOneEvent : Prop :=
  ∀ s : State, ∃ t, step s = .next t ∧ t.port = s.port.drop 1 ∧ t.params = s.params ∧ t.channel = s.channel

/-- R270: ILLEGAL_CMD is raised in exactly the listed cases, in every LC, and nothing else happens. -/
def Obligations.IllegalCommandExactly : Prop :=
  ∀ (s : State) (w : Word),
    (illegalWord w.toNat → runWord w s = .next (illegalCmdRaised s)) ∧
    (¬ illegalWord w.toNat →
      (∃ i : Instr, i.WellFormed ∧ encode i = w ∧ runWord w s = exec i s) ∧
      (∀ t, runWord w s = .next t → t.sticky.illegalCmd = true → s.sticky.illegalCmd = true))

/-! ## Reset -/

/-- R45: hard reset and CLEAR put every element of the channel at its reset value and keep OUT; the machine at
power-on has those values and nothing in OUT. Nothing is said of the model's own fields (log entries 1 to 3). -/
def Obligations.ResetFormsGiveResetValues : Prop :=
  (∀ s : State, ∃ t, exec .clear s = .next t ∧ t = atReset s.out t) ∧
  (∀ s : State, s.hardReset = atReset s.out s.hardReset) ∧
  State.reset = atReset [] State.reset

/-- R119: RESET clears the data state and keeps the configuration; outside READY it is SEQ_ERR. -/
def Obligations.SoftResetRestartsTheData : Prop :=
  (∀ s : State, s.lc = .ready → 1 ≤ s.cfg.proto.toNat → s.cfg.proto.toNat ≤ 7 →
    exec .reset s = .next { s with
      ib := [], sb := [], fb := [], exp := 0, nidreg := [], ldu1reg := [], fichreg := [], sdacc := []
      outCount := 0
      dstate := if s.cfg.proto.toNat ≤ 5 then .syncSearch else .dsssStream }) ∧
  (∀ s : State, s.lc ≠ .ready → exec .reset s = .next (seqErrRaised s))

/-- R295: the boot example, with the POCSAG_BAUD write and without it. -/
def Obligations.BootExampleReachesReady : Prop :=
  (∃ t, runWords [0x80000000, 0x10000005, 0x140004B0, 0x30000000, 0x97000000] State.reset = .next t ∧
    t.rdata = 0x00000001 ∧ t.lc = .ready ∧ (t.dstate, 0x01) ∈ stateCodes ∧
    t.cfg.thresh = 0x8000 ∧ t.cfg.bufcap = 2000) ∧
  (∃ t, runWords [0x80000000, 0x10000005, 0x30000000, 0x97000000] State.reset = .next t ∧
    t.rdata = 0x00000002 ∧ errCodes[5]? = some t.errcode)

/-! ## Configuration -/

/-- R110: NOP changes nothing. -/
def Obligations.NopChangesNothing : Prop := ∀ s : State, exec .nop s = .next s

/-- R111: WRCFG stores the whole value in the register it names and changes nothing else; READY and a bad
index fault. -/
def Obligations.WrcfgStoresTheValue : Prop :=
  ∀ (r : BitVec 4) (v : BitVec 24) (s : State),
    (5 < r.toNat → exec (.wrcfg r v) s = .next (illegalCmdRaised s)) ∧
    (r.toNat ≤ 5 → s.lc = .ready → exec (.wrcfg r v) s = .next (seqErrRaised s)) ∧
    (r.toNat ≤ 5 → s.lc ≠ .ready → ∃ c : Cfg, exec (.wrcfg r v) s = .next { s with cfg := c } ∧
      ∀ n, n ≤ 5 → cfgReg c n = if n = r.toNat then v else cfgReg s.cfg n)

/-- R112, R274: WRCODE appends one chip; at 256 chips it is CODE_OVF, in READY SEQ_ERR. -/
def Obligations.WrcodeAppendsAChip : Prop :=
  ∀ (c : Byte) (s : State),
    (s.lc = .ready → exec (.wrcode c) s = .next (seqErrRaised s)) ∧
    (s.lc ≠ .ready → s.code.length = 256 → exec (.wrcode c) s = .next (codeOvfRaised s)) ∧
    (s.lc ≠ .ready → s.code.length ≠ 256 → exec (.wrcode c) s = .next { s with code := s.code ++ [c] })

/-- R113: when every check of R114 holds, CONSTRUCT makes the channel READY with an empty data state. The checks
are those of R114's table: that M17_MAXLEN above 65535 passes them, where R25 gives a legal range up to 65535, is the
model's reading (log entry 4). -/
def Obligations.ConstructSucceeds : Prop :=
  (∀ s : State, s.lc ≠ .ready → (∀ k, checkHolds k s) →
    ∃ t, exec .construct s = .next t ∧
      t = { s with
        lc := .ready, errcode := .none, ib := [], sb := [], fb := [], exp := 0
        nidreg := [], ldu1reg := [], fichreg := [], sdacc := [], outCount := 0
        dstate := if s.cfg.proto.toNat ≤ 5 then .syncSearch else .dsssStream } ∧
      t.status.getLsbD 0 = true ∧ t.status.getLsbD 1 = false) ∧
  (∀ s : State, s.lc = .ready → exec .construct s = .next (seqErrRaised s))

/-- R114, R115: the first check that fails gives ERRCODE; LC is CFG_ERROR, DSTATE IDLE, the rest as it was. -/
def Obligations.ConstructFailsAtTheFirstCheck : Prop :=
  ∀ (s : State) (k : Nat), s.lc ≠ .ready → (∀ j, j < k → checkHolds j s) → ¬ checkHolds k s →
    ∃ t e, exec .construct s = .next t ∧ errCodes[k]? = some e ∧
      t = { s with lc := .cfgError, errcode := e, dstate := .idle } ∧
      t.status.getLsbD 0 = false ∧ t.status.getLsbD 1 = true

/-- R28, R111, R294: in READY no command but CLEAR changes LC, a configuration register or CODE. -/
def Obligations.ReadyFreezesTheConfiguration : Prop :=
  ∀ (i : Instr) (s t : State), s.lc = .ready → i ≠ .clear → exec i s = .next t →
    t.lc = .ready ∧ t.cfg = s.cfg ∧ t.code = s.code ∧ t.errcode = s.errcode

/-! ## Faults and status -/

/-- R271: SEQ_ERR is raised exactly where the table does not allow the command. -/
def Obligations.SeqErrExactlyByTheTable : Prop :=
  ∀ (i : Instr) (s : State), i.WellFormed →
    (¬ allowed i s → exec i s = .next (seqErrRaised s)) ∧
    (allowed i s → ∀ t, exec i s = .next t → t.sticky.seqErr = true → s.sticky.seqErr = true)

/-- R273: PUSH of a value above 1 in a bit personality is INPUT_ERR and appends nothing; no byte personality
and no PUSHS has INPUT_ERR. -/
def Obligations.InputErrOnlyForBitPersonalities : Prop :=
  (∀ (u : Byte) (s : State), s.lc = .ready → (s.cfg.proto = 5 ∨ s.cfg.proto = 6) → 1 < u.toNat →
    exec (.push u) s = .next (inputErrRaised s)) ∧
  (∀ (u : Byte) (s t : State), s.cfg.proto ≠ 5 → s.cfg.proto ≠ 6 → exec (.push u) s = .next t →
    t.sticky.inputErr = s.sticky.inputErr) ∧
  (∀ (i q : BitVec 12) (s t : State), exec (.pushs i q) s = .next t →
    t.sticky.inputErr = s.sticky.inputErr)

/-- R272, R277, R30: a command that changes the sticky bits sets exactly one of them and changes nothing
else, or it is CLEAR. -/
def Obligations.FaultsArePrecise : Prop :=
  ∀ (i : Instr) (s t : State), exec i s = .next t →
    i = .clear ∨ t.sticky = s.sticky ∨ t = illegalCmdRaised s ∨ t = seqErrRaised s ∨
    t = inputErrRaised s ∨ t = codeOvfRaised s

/-- R30: the bits of STATUS. -/
def Obligations.StatusShowsLifecycleAndFaults : Prop :=
  ∀ s : State,
    (s.status.getLsbD 0 = true ↔ s.lc = .ready) ∧
    (s.status.getLsbD 1 = true ↔ s.lc = .cfgError) ∧
    s.status.getLsbD 2 = s.sticky.illegalCmd ∧ s.status.getLsbD 3 = s.sticky.seqErr ∧
    s.status.getLsbD 4 = s.sticky.inputErr ∧ s.status.getLsbD 5 = s.sticky.codeOvf ∧
    ∀ j, 6 ≤ j → s.status.getLsbD j = false

/-- R121, R69: RDREG puts the register's value, zero-extended, in RDATA and changes nothing else; a second
RDREG of it changes nothing; an index above 12 is ILLEGAL_CMD. -/
def Obligations.RdregReadsTheRegister : Prop :=
  ∀ (r : BitVec 4) (s : State),
    (12 < r.toNat → exec (.rdreg r) s = .next (illegalCmdRaised s)) ∧
    (r.toNat ≤ 12 → ∃ v t, regReads s r.toNat v ∧ exec (.rdreg r) s = .next t ∧
      t = { s with rdata := BitVec.ofNat 32 (v % 2 ^ 24) } ∧ exec (.rdreg r) t = .next t)

/-! ## Input -/

/-- R116, R62: PUSH appends its unit to IB, the oldest unit going first at the cap. -/
def Obligations.PushAppendsUnderTheCap : Prop :=
  ∀ (u : Byte) (s : State),
    (s.lc ≠ .ready ∨ s.cfg.proto = 7 → exec (.push u) s = .next (seqErrRaised s)) ∧
    (s.lc = .ready → (s.cfg.proto = 5 ∨ s.cfg.proto = 6) → 1 < u.toNat →
      exec (.push u) s = .next (inputErrRaised s)) ∧
    (s.lc = .ready → s.cfg.proto ≠ 7 → (s.cfg.proto = 5 ∨ s.cfg.proto = 6 → u.toNat ≤ 1) →
      exec (.push u) s = .next { s with
        ib := (if s.ib.length = s.cfg.bufcap.toNat then s.ib.drop 1 else s.ib) ++ [u] })

/-- R117, R63: PUSHS appends its sample to SB, the oldest sample going first at the cap. -/
def Obligations.PushsAppendsUnderTheCap : Prop :=
  ∀ (i q : BitVec 12) (s : State),
    (s.lc ≠ .ready ∨ s.cfg.proto ≠ 7 → exec (.pushs i q) s = .next (seqErrRaised s)) ∧
    (s.lc = .ready → s.cfg.proto = 7 →
      exec (.pushs i q) s = .next { s with
        sb := (if s.sb.length = s.cfg.bufcap.toNat then s.sb.drop 1 else s.sb) ++ [⟨i, q⟩] })

/-- R62, R63, R253, R297, R298: however many units or samples are pushed between two RUNs, IB or SB holds the newest
BUFCAP of them; the units of POCSAG and DSSS_ENC are 0 and 1. -/
def Obligations.BufferKeepsTheNewestUnits : Prop :=
  (∀ (us : List Byte) (s : State), s.lc = .ready → 1 ≤ s.cfg.proto.toNat → s.cfg.proto.toNat ≤ 6 →
    (s.cfg.proto = 5 ∨ s.cfg.proto = 6 → ∀ u ∈ us, u = 0 ∨ u = 1) →
    1 ≤ s.cfg.bufcap.toNat → s.ib.length ≤ s.cfg.bufcap.toNat →
    runWords (pushWords us) s =
      .next { s with ib := (s.ib ++ us).drop (s.ib.length + us.length - s.cfg.bufcap.toNat) }) ∧
  (∀ (xs : List Sample) (s : State), s.lc = .ready → s.cfg.proto = 7 →
    1 ≤ s.cfg.bufcap.toNat → s.sb.length ≤ s.cfg.bufcap.toNat →
    runWords (pushsWords xs) s =
      .next { s with sb := (s.sb ++ xs).drop (s.sb.length + xs.length - s.cfg.bufcap.toNat) })

/-! ## RUN -/

/-- R118, R276: RUN completes in READY; it changes no flag, no error code, no configuration and no RDATA. (In the
READY states with PROTO outside 1 to 7, which no run reaches, that is the model's choice, log entry 5.) -/
def Obligations.RunCompletesSilently : Prop :=
  (∀ s : State, s.lc = .ready → ∃ t, exec .run s = .next t ∧
    t.lc = .ready ∧ t.cfg = s.cfg ∧ t.code = s.code ∧ t.sticky = s.sticky ∧ t.errcode = s.errcode ∧
    t.rdata = s.rdata ∧ t.port = s.port ∧ t.params = s.params) ∧
  (∀ s : State, s.lc ≠ .ready → exec .run s = .next (seqErrRaised s))

/-- R66, R71: RUN alone emits; it only appends to OUT, and OUT_COUNT counts the records modulo 2^24. -/
def Obligations.OnlyRunEmits : Prop :=
  ∀ (i : Instr) (s t : State), exec i s = .next t →
    ∃ recs, t.out = s.out ++ recs ∧ (i ≠ .run → recs = []) ∧
      (i = .run → t.outCount = s.outCount + BitVec.ofNat 24 recs.length)

/-- R118, R168: RUN goes on until nothing is enabled: a second RUN changes nothing. (In the READY states that no
run reaches that is the model's choice, log entry 5.) -/
def Obligations.RunTwiceIsRunOnce : Prop :=
  ∀ s : State, s.lc = .ready → ∃ t, exec .run s = .next t ∧ exec .run t = .next t

/-- R168: where RUN of a sync personality ends: no sync found, D-STAR waiting for bytes, or a frame part
waiting for units with IB empty. -/
def Obligations.RunEndsWithNothingEnabled : Prop :=
  ∀ s : State, s.Inv → s.lc = .ready → s.cfg.proto.toNat ≤ 5 → ∃ t, exec .run s = .next t ∧
    ((t.dstate = .syncSearch ∧ ∀ p, t.personality = some p → ∀ pat ∈ pats p, ∀ o,
        ¬ accepts t.params.matchGranularity p t.cfg.thresh.toNat t.ib pat o) ∨
     (t.dstate = .dstarSynced ∧ t.ib.length < 15) ∨
     (t.dstate.collecting = true ∧ t.ib = [] ∧ t.fb.length < t.exp))

/-- R118: RUN with IB empty emits nothing and changes nothing (but for DSSS_DEC, whose input is SB). -/
def Obligations.RunOnEmptyBufferChangesNothing : Prop :=
  ∀ s : State, s.Inv → s.lc = .ready → s.cfg.proto ≠ 7 → s.ib = [] → exec .run s = .next s

/-- R170: but for D-STAR, an extra RUN before more units are pushed changes nothing in the end, if the cap
discards nothing. Both runs read the same YSF_CALLSIGNS draws, which are keyed by their number (log entry 3). -/
def Obligations.ChunkBoundariesDoNotMatter : Prop :=
  ∀ (us : List Byte) (s : State), s.Inv → s.lc = .ready → s.cfg.proto.toNat ≤ 5 → s.cfg.proto ≠ 2 →
    (s.cfg.proto = 5 → ∀ u ∈ us, u = 0 ∨ u = 1) → s.ib.length + us.length ≤ s.cfg.bufcap.toNat →
    runWords (encode .run :: pushWords us ++ [encode .run]) s = runWords (pushWords us ++ [encode .run]) s

/-! ## Sync detector -/

/-- R140, R143, R144, R145: the search answers the smallest offset that qualifies for some pattern, with the
pattern of the largest count, the lower index at a tie; and NONE exactly when no window qualifies. -/
def Obligations.SearchFindsTheFirstWindow : Prop :=
  ∀ (g : Config.Granularity) (p : Personality) (thresh : Nat) (buf : List Byte), p.isSync = true →
    (searchBuffer g p thresh buf = none ↔ ∀ pat ∈ pats p, ∀ o, ¬ accepts g p thresh buf pat o) ∧
    (∀ o k, searchBuffer g p thresh buf = some (o, k) →
      (∀ pat ∈ pats p, ∀ o', o' < o → ¬ accepts g p thresh buf pat o') ∧
      ∃ pat, (pats p)[k]? = some pat ∧ accepts g p thresh buf pat o ∧
        ∀ j pat', (pats p)[j]? = some pat' → accepts g p thresh buf pat' o →
          agreeing g p buf pat' o ≤ agreeing g p buf pat o ∧
          (agreeing g p buf pat' o = agreeing g p buf pat o → k ≤ j))

/-- R148: a lower threshold rejects no window that a higher one accepts, and finds no later offset. -/
def Obligations.LowerThresholdFindsNoLater : Prop :=
  ∀ (g : Config.Granularity) (p : Personality) (hi lo : Nat) (buf : List Byte), lo ≤ hi → p.isSync = true →
    (∀ pat ∈ pats p, ∀ o, accepts g p hi buf pat o → accepts g p lo buf pat o) ∧
    (∀ o k, searchBuffer g p hi buf = some (o, k) →
      ∃ o' k', searchBuffer g p lo buf = some (o', k') ∧ o' ≤ o)

/-- R152: a stream that begins with a pattern is found at offset 0, as that pattern, at every legal
threshold. -/
def Obligations.ExactSyncIsFoundAtOffsetZero : Prop :=
  ∀ (g : Config.Granularity) (p : Personality) (thresh k : Nat) (pat rest : List Byte), p.isSync = true →
    (pats p)[k]? = some pat → thresh ≤ 0x8000 → searchBuffer g p thresh (pat ++ rest) = some (0, k)

/-- R151: in BIT mode the two M17 counts never tie, and above 0x6800 one window never qualifies for both; so the search
answers the pattern of the larger count. The counts are the agreeing bits of R141. -/
def Obligations.M17PatternsNeverTieInBitMode : Prop :=
  ∀ (a b : Byte) (thresh : Nat),
    (∀ pat ∈ pats .m17, matchCount .bit [a, b] pat = agreeing .bit .m17 [a, b] pat 0) ∧
    matchCount .bit [a, b] [0xDF, 0x55] ≠ matchCount .bit [a, b] [0x9F, 0xF6] ∧
    (0x6800 < thresh →
      ¬ (qualifies .bit thresh [a, b] [0xDF, 0x55] = true ∧ qualifies .bit thresh [a, b] [0x9F, 0xF6] = true)) ∧
    (∀ k, searchBuffer .bit .m17 thresh [a, b] = some (0, k) →
      (k = 0 ↔ matchCount .bit [a, b] [0x9F, 0xF6] < matchCount .bit [a, b] [0xDF, 0x55]) ∧
      (k = 1 ↔ matchCount .bit [a, b] [0xDF, 0x55] < matchCount .bit [a, b] [0x9F, 0xF6]))

/-! ## Deframers

In each of them the search finds the sync at the unit after `pre`: RUN discards `pre` (R146), whatever it holds, and
below the threshold 1.0 the sync need not be exact. -/

/-- R146, R180, R181: an LSF/Stream frame gives one record with all its 48 bytes, the two sync bytes as they were
received, and RUN goes on after it. -/
def Obligations.M17LsfFrameIsEmitted : Prop :=
  ∀ (s : State) (pre sync body rest : List Byte), searching s 1 → sync.length = 2 → body.length = 46 →
    s.ib = pre ++ sync ++ body ++ rest → foundAfter s .m17 pre 0 →
    runsThrough s (emitted s rest (.frame .m17LsfStream (sync ++ body) [])) rest

/-- R146, R180, R182: a Packet frame takes M17_MAXLEN bytes; from 4 bytes on it gives one record with all of them,
the two sync bytes as they were received; below it is rejected silently. -/
def Obligations.M17PacketIsEmittedFromFourBytes : Prop :=
  ∀ (s : State) (pre sync body rest : List Byte), searching s 1 → sync.length = 2 →
    2 + body.length = s.cfg.m17Maxlen.toNat →
    s.ib = pre ++ sync ++ body ++ rest → foundAfter s .m17 pre 1 →
    (4 ≤ s.cfg.m17Maxlen.toNat →
      runsThrough s (emitted s rest (.frame .m17Packet (sync ++ body) [])) rest) ∧
    (s.cfg.m17Maxlen.toNat < 4 → runsThrough s { s with ib := rest } rest)

/-- R185, R167: an LSF sync with fewer than 48 bytes in all emits nothing; the channel waits in M17_LSF. -/
def Obligations.TruncatedM17FrameEmitsNothing : Prop :=
  ∀ (s : State) (pre sync body : List Byte), searching s 1 → sync.length = 2 → 2 + body.length < 48 →
    s.ib = pre ++ sync ++ body → foundAfter s .m17 pre 0 →
    exec .run s = .next { s with ib := [], fb := sync ++ body, exp := 48, dstate := .m17Lsf }

/-- R191: the header/voice choice by the bytes in IB: 41 and more, 15 to 40, fewer. -/
def Obligations.DstarChoosesByBytesAvailable : Prop :=
  ∀ s : State, s.Inv → s.lc = .ready → s.dstate = .dstarSynced →
    (41 ≤ s.ib.length → exec .run s = exec .run { s with exp := 41, dstate := .dstarHeader }) ∧
    (15 ≤ s.ib.length → s.ib.length < 41 →
      exec .run s = exec .run { s with exp := 15, dstate := .dstarVoice }) ∧
    (s.ib.length < 15 → exec .run s = .next s)

/-- R146, R190, R192, R193: a header of 41 bytes after the sync gives one record with the five trimmed fields; SDACC
stays as it is. -/
def Obligations.DstarHeaderIsEmitted : Prop :=
  ∀ (s : State) (pre sync h rest : List Byte), searching s 2 → sync.length = 3 → h.length = 41 →
    s.ib = pre ++ sync ++ h ++ rest → foundAfter s .dstar pre 0 →
    runsThrough s (emitted s rest (.frame .dstarHeader h
      [.rpt2 (trim ((h.take 11).drop 3)), .rpt1 (trim ((h.take 19).drop 11)),
       .your (trim ((h.take 27).drop 19)), .my (trim ((h.take 35).drop 27)),
       .suffix (trim ((h.take 39).drop 35))])) rest

/-- R146, R190, R195, R196, R197: a voice frame gives its 12 voice bytes and the message of SDACC, to which its 24 slow-data
bits were appended; SDACC is cleared first where it would exceed 168 bits. -/
def Obligations.DstarVoiceIsEmitted : Prop :=
  ∀ (s : State) (pre sync v sd rest : List Byte), searching s 2 → sync.length = 3 →
    v.length = 12 → sd.length = 3 → rest.length < 26 →
    s.ib = pre ++ sync ++ v ++ sd ++ rest → foundAfter s .dstar pre 0 →
    ∀ acc, acc = (if 168 < s.sdacc.length + 24 then [] else s.sdacc) ++
        sd.flatMap (fun b => [7, 6, 5, 4, 3, 2, 1, 0].map (fun k => b.getLsbD k)) →
      runsThrough s
        (emitted { s with sdacc := acc } rest (.frame .dstarVoice v [.message (sdMessage acc)])) rest

/-- R194: trim removes trailing spaces and nothing else. -/
def Obligations.TrimRemovesTrailingSpaces : Prop :=
  ∀ bs : List Byte, ∃ n, bs = trim bs ++ List.replicate n 0x20 ∧ (trim bs).getLast? ≠ some 0x20

/-- R198: the message is the 7-bit groups of SDACC, most significant bit first, up to the first that is not
printable. -/
def Obligations.SlowDataMessageStopsAtUnprintable : Prop :=
  ∀ acc : List Bool,
    let char := fun k => ((List.range 7).map (fun i => (acc.getD (7 * k + i) false).toNat * 2 ^ (6 - i))).sum
    (sdMessage acc).length ≤ acc.length / 7 ∧
    (∀ k, k < (sdMessage acc).length →
      ((sdMessage acc).getD k 0).toNat = char k ∧ 0x20 ≤ char k ∧ char k ≤ 0x7E) ∧
    ((sdMessage acc).length < acc.length / 7 →
      char (sdMessage acc).length < 0x20 ∨ 0x7E < char (sdMessage acc).length)

/-- R146, R210 to R214: a whole P25 frame gives one record: LDU1, with the NAC from the low 12 bits of the NID and
the fields P25_FIELDS finds in the LDUs. -/
def Obligations.P25FrameIsEmitted : Prop :=
  ∀ (s : State) (pre sync nid ldu1 ldu2 rest : List Byte), searching s 3 →
    sync.length = 6 → nid.length = 8 → ldu1.length = 90 → ldu2.length = 90 →
    s.ib = pre ++ sync ++ nid ++ ldu1 ++ ldu2 ++ rest → foundAfter s .p25 pre 0 →
    runsThrough s (emitted s rest (.frame .p25Voice ldu1
      [.nac (((nid.getD 6 0 &&& 0x0F).setWidth 12 <<< 8) ||| (nid.getD 7 0).setWidth 12),
       .source (Config.p25Fields ldu1 ldu2).source, .destination (Config.p25Fields ldu1 ldu2).destination,
       .talkgroup (Config.p25Fields ldu1 ldu2).talkgroup,
       .encrypted (Config.p25Fields ldu1 ldu2).encrypted])) rest

/-- R146, R220 to R222: a whole YSF frame gives one record: the voice bytes, the fields YSF_FICH_FIELDS finds in the
FICH, and at most a CALLSIGNS tag after them, of which nothing is said (R223). The count of draws is the model's
own (log entry 3). -/
def Obligations.YsfFrameIsEmitted : Prop :=
  ∀ (s : State) (pre sync fich voice rest : List Byte), searching s 4 →
    sync.length = 2 → fich.length = 5 → voice.length = 144 →
    s.ib = pre ++ sync ++ fich ++ voice ++ rest → foundAfter s .ysf pre 0 →
    ∃ callsigns : List Tag, (callsigns = [] ∨ ∃ cs, callsigns = [.callsigns cs]) ∧
      runsThrough s (emitted { s with draws := s.draws + 1 } rest (.frame .ysfVoice voice
        ([.frameType (Config.ysfFichFields fich).frameType, .radioId (Config.ysfFichFields fich).radioId,
          .groupId (Config.ysfFichFields fich).groupId] ++ callsigns))) rest

/-- R146, R230, R231, R234 to R239: a batch of 512 bits gives one page record for each address codeword, in
increasing position. The codeword layout, the generator and the order of a character's bits are what the spec itself
takes from general knowledge (PRESUMED, log entry 12). -/
def Obligations.PocsagBatchEmitsItsPages : Prop :=
  ∀ (s : State) (pre sync batch rest : List Byte), searching s 5 → sync.length = 32 → batch.length = 512 →
    s.ib = pre ++ sync ++ batch ++ rest → foundAfter s .pocsag pre 0 →
    ∀ recs, recs = (List.range 16).flatMap (pageAt (corrected s.params.checkParity batch)) →
      runsThrough s { s with
        ib := rest, out := s.out ++ recs, outCount := s.outCount + BitVec.ofNat 24 recs.length } rest

/-- R233, R242: the syndrome is the remainder of bits 31 to 1 by the generator (a word less a multiple of it, of
degree below 10); it is linear, the 31 single-bit syndromes are distinct and nonzero, and so at most one candidate
position corrects a codeword. The generator is what the spec itself takes from general knowledge (PRESUMED, log entry
12). -/
def Obligations.SyndromesSingleOutOneBit : Prop :=
  (∀ cw : BitVec 32, ∃ q : BitVec 21, cw.extractLsb' 1 31 = timesGenerator q ^^^ (syn cw).setWidth 31) ∧
  (∀ x y : BitVec 32, syn (x ^^^ y) = syn x ^^^ syn y) ∧
  (∀ p q, 1 ≤ p → p < q → q ≤ 31 → syn (1#32 <<< p) ≠ syn (1#32 <<< q)) ∧
  (∀ p, 1 ≤ p → p ≤ 31 → syn (1#32 <<< p) ≠ 0) ∧
  (∀ (cw : BitVec 32) (p q : Nat), 11 ≤ p → p ≤ 30 → 11 ≤ q → q ≤ 30 →
    syn (cw ^^^ 1#32 <<< p) = 0 → syn (cw ^^^ 1#32 <<< q) = 0 → p = q)

/-- R233: every single error in the 20 data bits of a valid codeword is corrected, every single error in the
flag or the check bits is ERR, and an error in bit 0 passes unseen; and every word that is not valid, and that no flip
of one data bit makes valid, is ERR. The generator is what the spec itself takes from general knowledge (PRESUMED, log
entry 12). -/
def Obligations.SingleErrorsAreCorrectedInTheDataBits : Prop :=
  (∀ cw : BitVec 32, syn cw = 0 →
    bchCorrect cw = some cw ∧
    (∀ p, 11 ≤ p → p ≤ 30 → bchCorrect (cw ^^^ 1#32 <<< p) = some cw) ∧
    (∀ p, (1 ≤ p ∧ p ≤ 10) ∨ p = 31 → bchCorrect (cw ^^^ 1#32 <<< p) = none) ∧
    bchCorrect (cw ^^^ 1#32) = some (cw ^^^ 1#32)) ∧
  (∀ cw : BitVec 32, syn cw ≠ 0 → (∀ p, 11 ≤ p → p ≤ 30 → syn (cw ^^^ 1#32 <<< p) ≠ 0) → bchCorrect cw = none)

/-- R244: both constants of the source are valid codewords with even parity and flag 0, 16 bits apart. The layout and
the generator are what the spec itself takes from general knowledge (PRESUMED, log entry 12). -/
def Obligations.SourceConstantsAreCodewords : Prop :=
  syn 0x7CD215D8 = 0 ∧ syn 0x7A89C197 = 0 ∧
  popcount (0x7CD215D8 : BitVec 32) = 16 ∧ popcount (0x7A89C197 : BitVec 32) = 16 ∧
  (0x7CD215D8 : BitVec 32).getLsbD 31 = false ∧ (0x7A89C197 : BitVec 32).getLsbD 31 = false ∧
  popcount ((0x7CD215D8 : BitVec 32) ^^^ 0x7A89C197) = 16

/-- R236, R241: the low three bits of an address are the frame of its position; the codeword 0x00001DA5 is
address 5 at positions 10 and 11 alone. The layout is what the spec itself takes from general knowledge (PRESUMED,
log entry 12). -/
def Obligations.AddressTakesItsFrameNumber : Prop :=
  (∀ (k : Nat) (cw : BitVec 32), k < 16 →
    (pageAddress k cw).toNat = 8 * (cw.toNat / 2 ^ 13 % 2 ^ 18) + k / 2 ∧
    (pageFunction cw).toNat = cw.toNat / 2 ^ 11 % 4) ∧
  (∀ k, k < 16 → (pageAddress k 0x00001DA5 = 5 ↔ k = 10 ∨ k = 11))

/-! ## DSSS -/

/-- R250, R251, R252: RUN spreads every bit of IB, in order, one record of L chips each: the code for a 1, its
complement for a 0; IB is empty afterwards. -/
def Obligations.SpreaderEmitsTheCodeOrItsComplement : Prop :=
  ∀ s : State, s.Inv → s.lc = .ready → s.cfg.proto = 6 →
    exec .run s = .next { s with
      ib := []
      out := s.out ++ s.ib.map (fun b => Record.chips (if b = 1 then s.code else s.code.map (fun c =>
        if c = 1 then 0 else 1)))
      outCount := s.outCount + BitVec.ofNat 24 s.ib.length }

/-- R255, R256, R257, R258: RUN correlates every whole symbol period of SB, in order, and keeps the rest. -/
def Obligations.CorrelatorEmitsOnePerSymbol : Prop :=
  ∀ s : State, s.Inv → s.lc = .ready → s.cfg.proto = 7 →
    ∀ S P n, S = s.cfg.dsssSps.toNat → P = s.code.length * S → n = s.sb.length / P →
    exec .run s = .next { s with
      sb := s.sb.drop (n * P)
      out := s.out ++ (List.range n).map (fun k => Record.corr
        (corrSum (fun x => x.i.toInt) s.code S s.sb (k * P))
        (corrSum (fun x => x.q.toInt) s.code S s.sb (k * P)) P)
      outCount := s.outCount + BitVec.ofNat 24 n }

/-- R262: a bit spread, sent as samples of amplitude A, S for each chip, and correlated with the same code
comes back as plus or minus A. -/
def Obligations.SpreadThenCorrelateRecoversTheBit : Prop :=
  ∀ (code : List Byte) (b : Byte) (A : Int) (S : Nat), (∀ c ∈ code, c = 0 ∨ c = 1) → (b = 0 ∨ b = 1) →
    0 < A → A ≤ 2047 →
    corrRecord code S (modulate A S (spreadBit code b)) =
      .corr ((2 * (b.toNat : Int) - 1) * A * code.length * S) 0 (code.length * S)

/-- R259: CONSTRUCT bounds the symbol period, and with it every correlation value. -/
def Obligations.CorrelationValuesAreBounded : Prop :=
  ∀ s : State, s.Inv → s.lc = .ready → s.cfg.proto = 7 →
    ∀ P, P = s.code.length * s.cfg.dsssSps.toNat →
    P ≤ s.cfg.bufcap.toNat ∧ s.cfg.bufcap.toNat ≤ 65535 ∧
    ∀ x : List Sample, x.length = P → ∃ ni nq : Int,
      corrRecord s.code s.cfg.dsssSps.toNat x = .corr ni nq P ∧
      ni.natAbs ≤ 2048 * P ∧ nq.natAbs ≤ 2048 * P ∧ ni.natAbs < 2 ^ 27 ∧ nq.natAbs < 2 ^ 27

/-! ## Invariant and system -/

/-- R45: the state after reset meets the invariant. -/
def Obligations.ResetMeetsTheInvariant : Prop := State.reset.Inv

/-- R20 to R43, R62, R63: every step keeps the invariant of 10_state.md. -/
def Obligations.StepKeepsTheInvariant : Prop :=
  ∀ s t : State, s.Inv → step s = .next t → t.Inv

/-- R72: a step of one channel leaves every other channel as it is; at power-on every channel is at reset, with its own
number. Channels are addressed by number (log entry 10), which also tells their YSF_CALLSIGNS draws apart (log entry
3): the model's choices. -/
def Obligations.ChannelsAreIndependent : Prop :=
  (∀ k, k < Config.numChannels → systemReset[k]? = some { State.reset with channel := k }) ∧
  (∀ (k : Nat) (sys : Machine.System) (s t : State), sys[k]? = some s → step s = .next t →
    ∃ sys', systemStep k sys = .next sys' ∧ sys'.length = sys.length ∧ sys'[k]? = some t ∧
      ∀ j, j ≠ k → sys'[j]? = sys[j]?)
end

