-- ==== Sys2Proof/Laws/State.lean ====
section
/-! SUPPORT. One lemma per field of State per named update, so that no later proof unfolds a record update. -/

namespace Sys2Proof.Machine

/-! ### State.raise -/

@[simp] theorem State.raise_lc (s : State) (k : FaultKind) : (s.raise k).lc = s.lc := rfl
@[simp] theorem State.raise_cfg (s : State) (k : FaultKind) : (s.raise k).cfg = s.cfg := rfl
@[simp] theorem State.raise_code (s : State) (k : FaultKind) : (s.raise k).code = s.code := rfl
@[simp] theorem State.raise_sticky (s : State) (k : FaultKind) : (s.raise k).sticky = s.sticky.set k := rfl
@[simp] theorem State.raise_errcode (s : State) (k : FaultKind) : (s.raise k).errcode = s.errcode := rfl
@[simp] theorem State.raise_dstate (s : State) (k : FaultKind) : (s.raise k).dstate = s.dstate := rfl
@[simp] theorem State.raise_ib (s : State) (k : FaultKind) : (s.raise k).ib = s.ib := rfl
@[simp] theorem State.raise_sb (s : State) (k : FaultKind) : (s.raise k).sb = s.sb := rfl
@[simp] theorem State.raise_fb (s : State) (k : FaultKind) : (s.raise k).fb = s.fb := rfl
@[simp] theorem State.raise_exp (s : State) (k : FaultKind) : (s.raise k).exp = s.exp := rfl
@[simp] theorem State.raise_nidreg (s : State) (k : FaultKind) : (s.raise k).nidreg = s.nidreg := rfl
@[simp] theorem State.raise_ldu1reg (s : State) (k : FaultKind) : (s.raise k).ldu1reg = s.ldu1reg := rfl
@[simp] theorem State.raise_fichreg (s : State) (k : FaultKind) : (s.raise k).fichreg = s.fichreg := rfl
@[simp] theorem State.raise_sdacc (s : State) (k : FaultKind) : (s.raise k).sdacc = s.sdacc := rfl
@[simp] theorem State.raise_rdata (s : State) (k : FaultKind) : (s.raise k).rdata = s.rdata := rfl
@[simp] theorem State.raise_outCount (s : State) (k : FaultKind) : (s.raise k).outCount = s.outCount := rfl
@[simp] theorem State.raise_out (s : State) (k : FaultKind) : (s.raise k).out = s.out := rfl
@[simp] theorem State.raise_port (s : State) (k : FaultKind) : (s.raise k).port = s.port := rfl
@[simp] theorem State.raise_draws (s : State) (k : FaultKind) : (s.raise k).draws = s.draws := rfl
@[simp] theorem State.raise_channel (s : State) (k : FaultKind) : (s.raise k).channel = s.channel := rfl
@[simp] theorem State.raise_params (s : State) (k : FaultKind) : (s.raise k).params = s.params := rfl

/-! ### State.emit -/

@[simp] theorem State.emit_lc (s : State) (r : Record) : (s.emit r).lc = s.lc := rfl
@[simp] theorem State.emit_cfg (s : State) (r : Record) : (s.emit r).cfg = s.cfg := rfl
@[simp] theorem State.emit_code (s : State) (r : Record) : (s.emit r).code = s.code := rfl
@[simp] theorem State.emit_sticky (s : State) (r : Record) : (s.emit r).sticky = s.sticky := rfl
@[simp] theorem State.emit_errcode (s : State) (r : Record) : (s.emit r).errcode = s.errcode := rfl
@[simp] theorem State.emit_dstate (s : State) (r : Record) : (s.emit r).dstate = s.dstate := rfl
@[simp] theorem State.emit_ib (s : State) (r : Record) : (s.emit r).ib = s.ib := rfl
@[simp] theorem State.emit_sb (s : State) (r : Record) : (s.emit r).sb = s.sb := rfl
@[simp] theorem State.emit_fb (s : State) (r : Record) : (s.emit r).fb = s.fb := rfl
@[simp] theorem State.emit_exp (s : State) (r : Record) : (s.emit r).exp = s.exp := rfl
@[simp] theorem State.emit_nidreg (s : State) (r : Record) : (s.emit r).nidreg = s.nidreg := rfl
@[simp] theorem State.emit_ldu1reg (s : State) (r : Record) : (s.emit r).ldu1reg = s.ldu1reg := rfl
@[simp] theorem State.emit_fichreg (s : State) (r : Record) : (s.emit r).fichreg = s.fichreg := rfl
@[simp] theorem State.emit_sdacc (s : State) (r : Record) : (s.emit r).sdacc = s.sdacc := rfl
@[simp] theorem State.emit_rdata (s : State) (r : Record) : (s.emit r).rdata = s.rdata := rfl
@[simp] theorem State.emit_outCount (s : State) (r : Record) : (s.emit r).outCount = s.outCount + 1 := rfl
@[simp] theorem State.emit_out (s : State) (r : Record) : (s.emit r).out = s.out ++ [r] := rfl
@[simp] theorem State.emit_port (s : State) (r : Record) : (s.emit r).port = s.port := rfl
@[simp] theorem State.emit_draws (s : State) (r : Record) : (s.emit r).draws = s.draws := rfl
@[simp] theorem State.emit_channel (s : State) (r : Record) : (s.emit r).channel = s.channel := rfl
@[simp] theorem State.emit_params (s : State) (r : Record) : (s.emit r).params = s.params := rfl

/-! ### State.pushUnit -/

@[simp] theorem State.pushUnit_lc (s : State) (u : Byte) : (s.pushUnit u).lc = s.lc := rfl
@[simp] theorem State.pushUnit_cfg (s : State) (u : Byte) : (s.pushUnit u).cfg = s.cfg := rfl
@[simp] theorem State.pushUnit_code (s : State) (u : Byte) : (s.pushUnit u).code = s.code := rfl
@[simp] theorem State.pushUnit_sticky (s : State) (u : Byte) : (s.pushUnit u).sticky = s.sticky := rfl
@[simp] theorem State.pushUnit_errcode (s : State) (u : Byte) : (s.pushUnit u).errcode = s.errcode := rfl
@[simp] theorem State.pushUnit_dstate (s : State) (u : Byte) : (s.pushUnit u).dstate = s.dstate := rfl
@[simp] theorem State.pushUnit_ib (s : State) (u : Byte) : (s.pushUnit u).ib = capAppend s.cfg.bufcap.toNat s.ib u := rfl
@[simp] theorem State.pushUnit_sb (s : State) (u : Byte) : (s.pushUnit u).sb = s.sb := rfl
@[simp] theorem State.pushUnit_fb (s : State) (u : Byte) : (s.pushUnit u).fb = s.fb := rfl
@[simp] theorem State.pushUnit_exp (s : State) (u : Byte) : (s.pushUnit u).exp = s.exp := rfl
@[simp] theorem State.pushUnit_nidreg (s : State) (u : Byte) : (s.pushUnit u).nidreg = s.nidreg := rfl
@[simp] theorem State.pushUnit_ldu1reg (s : State) (u : Byte) : (s.pushUnit u).ldu1reg = s.ldu1reg := rfl
@[simp] theorem State.pushUnit_fichreg (s : State) (u : Byte) : (s.pushUnit u).fichreg = s.fichreg := rfl
@[simp] theorem State.pushUnit_sdacc (s : State) (u : Byte) : (s.pushUnit u).sdacc = s.sdacc := rfl
@[simp] theorem State.pushUnit_rdata (s : State) (u : Byte) : (s.pushUnit u).rdata = s.rdata := rfl
@[simp] theorem State.pushUnit_outCount (s : State) (u : Byte) : (s.pushUnit u).outCount = s.outCount := rfl
@[simp] theorem State.pushUnit_out (s : State) (u : Byte) : (s.pushUnit u).out = s.out := rfl
@[simp] theorem State.pushUnit_port (s : State) (u : Byte) : (s.pushUnit u).port = s.port := rfl
@[simp] theorem State.pushUnit_draws (s : State) (u : Byte) : (s.pushUnit u).draws = s.draws := rfl
@[simp] theorem State.pushUnit_channel (s : State) (u : Byte) : (s.pushUnit u).channel = s.channel := rfl
@[simp] theorem State.pushUnit_params (s : State) (u : Byte) : (s.pushUnit u).params = s.params := rfl

/-! ### State.pushSample -/

@[simp] theorem State.pushSample_lc (s : State) (x : Sample) : (s.pushSample x).lc = s.lc := rfl
@[simp] theorem State.pushSample_cfg (s : State) (x : Sample) : (s.pushSample x).cfg = s.cfg := rfl
@[simp] theorem State.pushSample_code (s : State) (x : Sample) : (s.pushSample x).code = s.code := rfl
@[simp] theorem State.pushSample_sticky (s : State) (x : Sample) : (s.pushSample x).sticky = s.sticky := rfl
@[simp] theorem State.pushSample_errcode (s : State) (x : Sample) : (s.pushSample x).errcode = s.errcode := rfl
@[simp] theorem State.pushSample_dstate (s : State) (x : Sample) : (s.pushSample x).dstate = s.dstate := rfl
@[simp] theorem State.pushSample_ib (s : State) (x : Sample) : (s.pushSample x).ib = s.ib := rfl
@[simp] theorem State.pushSample_sb (s : State) (x : Sample) : (s.pushSample x).sb = capAppend s.cfg.bufcap.toNat s.sb x := rfl
@[simp] theorem State.pushSample_fb (s : State) (x : Sample) : (s.pushSample x).fb = s.fb := rfl
@[simp] theorem State.pushSample_exp (s : State) (x : Sample) : (s.pushSample x).exp = s.exp := rfl
@[simp] theorem State.pushSample_nidreg (s : State) (x : Sample) : (s.pushSample x).nidreg = s.nidreg := rfl
@[simp] theorem State.pushSample_ldu1reg (s : State) (x : Sample) : (s.pushSample x).ldu1reg = s.ldu1reg := rfl
@[simp] theorem State.pushSample_fichreg (s : State) (x : Sample) : (s.pushSample x).fichreg = s.fichreg := rfl
@[simp] theorem State.pushSample_sdacc (s : State) (x : Sample) : (s.pushSample x).sdacc = s.sdacc := rfl
@[simp] theorem State.pushSample_rdata (s : State) (x : Sample) : (s.pushSample x).rdata = s.rdata := rfl
@[simp] theorem State.pushSample_outCount (s : State) (x : Sample) : (s.pushSample x).outCount = s.outCount := rfl
@[simp] theorem State.pushSample_out (s : State) (x : Sample) : (s.pushSample x).out = s.out := rfl
@[simp] theorem State.pushSample_port (s : State) (x : Sample) : (s.pushSample x).port = s.port := rfl
@[simp] theorem State.pushSample_draws (s : State) (x : Sample) : (s.pushSample x).draws = s.draws := rfl
@[simp] theorem State.pushSample_channel (s : State) (x : Sample) : (s.pushSample x).channel = s.channel := rfl
@[simp] theorem State.pushSample_params (s : State) (x : Sample) : (s.pushSample x).params = s.params := rfl

/-! ### State.writeCfg -/

@[simp] theorem State.writeCfg_lc (s : State) (n : Nat) (v : Reg) : (s.writeCfg n v).lc = s.lc := rfl
@[simp] theorem State.writeCfg_cfg (s : State) (n : Nat) (v : Reg) : (s.writeCfg n v).cfg = s.cfg.write n v := rfl
@[simp] theorem State.writeCfg_code (s : State) (n : Nat) (v : Reg) : (s.writeCfg n v).code = s.code := rfl
@[simp] theorem State.writeCfg_sticky (s : State) (n : Nat) (v : Reg) : (s.writeCfg n v).sticky = s.sticky := rfl
@[simp] theorem State.writeCfg_errcode (s : State) (n : Nat) (v : Reg) : (s.writeCfg n v).errcode = s.errcode := rfl
@[simp] theorem State.writeCfg_dstate (s : State) (n : Nat) (v : Reg) : (s.writeCfg n v).dstate = s.dstate := rfl
@[simp] theorem State.writeCfg_ib (s : State) (n : Nat) (v : Reg) : (s.writeCfg n v).ib = s.ib := rfl
@[simp] theorem State.writeCfg_sb (s : State) (n : Nat) (v : Reg) : (s.writeCfg n v).sb = s.sb := rfl
@[simp] theorem State.writeCfg_fb (s : State) (n : Nat) (v : Reg) : (s.writeCfg n v).fb = s.fb := rfl
@[simp] theorem State.writeCfg_exp (s : State) (n : Nat) (v : Reg) : (s.writeCfg n v).exp = s.exp := rfl
@[simp] theorem State.writeCfg_nidreg (s : State) (n : Nat) (v : Reg) : (s.writeCfg n v).nidreg = s.nidreg := rfl
@[simp] theorem State.writeCfg_ldu1reg (s : State) (n : Nat) (v : Reg) : (s.writeCfg n v).ldu1reg = s.ldu1reg := rfl
@[simp] theorem State.writeCfg_fichreg (s : State) (n : Nat) (v : Reg) : (s.writeCfg n v).fichreg = s.fichreg := rfl
@[simp] theorem State.writeCfg_sdacc (s : State) (n : Nat) (v : Reg) : (s.writeCfg n v).sdacc = s.sdacc := rfl
@[simp] theorem State.writeCfg_rdata (s : State) (n : Nat) (v : Reg) : (s.writeCfg n v).rdata = s.rdata := rfl
@[simp] theorem State.writeCfg_outCount (s : State) (n : Nat) (v : Reg) : (s.writeCfg n v).outCount = s.outCount := rfl
@[simp] theorem State.writeCfg_out (s : State) (n : Nat) (v : Reg) : (s.writeCfg n v).out = s.out := rfl
@[simp] theorem State.writeCfg_port (s : State) (n : Nat) (v : Reg) : (s.writeCfg n v).port = s.port := rfl
@[simp] theorem State.writeCfg_draws (s : State) (n : Nat) (v : Reg) : (s.writeCfg n v).draws = s.draws := rfl
@[simp] theorem State.writeCfg_channel (s : State) (n : Nat) (v : Reg) : (s.writeCfg n v).channel = s.channel := rfl
@[simp] theorem State.writeCfg_params (s : State) (n : Nat) (v : Reg) : (s.writeCfg n v).params = s.params := rfl

/-! ### State.appendChip -/

@[simp] theorem State.appendChip_lc (s : State) (c : Byte) : (s.appendChip c).lc = s.lc := rfl
@[simp] theorem State.appendChip_cfg (s : State) (c : Byte) : (s.appendChip c).cfg = s.cfg := rfl
@[simp] theorem State.appendChip_code (s : State) (c : Byte) : (s.appendChip c).code = s.code ++ [c] := rfl
@[simp] theorem State.appendChip_sticky (s : State) (c : Byte) : (s.appendChip c).sticky = s.sticky := rfl
@[simp] theorem State.appendChip_errcode (s : State) (c : Byte) : (s.appendChip c).errcode = s.errcode := rfl
@[simp] theorem State.appendChip_dstate (s : State) (c : Byte) : (s.appendChip c).dstate = s.dstate := rfl
@[simp] theorem State.appendChip_ib (s : State) (c : Byte) : (s.appendChip c).ib = s.ib := rfl
@[simp] theorem State.appendChip_sb (s : State) (c : Byte) : (s.appendChip c).sb = s.sb := rfl
@[simp] theorem State.appendChip_fb (s : State) (c : Byte) : (s.appendChip c).fb = s.fb := rfl
@[simp] theorem State.appendChip_exp (s : State) (c : Byte) : (s.appendChip c).exp = s.exp := rfl
@[simp] theorem State.appendChip_nidreg (s : State) (c : Byte) : (s.appendChip c).nidreg = s.nidreg := rfl
@[simp] theorem State.appendChip_ldu1reg (s : State) (c : Byte) : (s.appendChip c).ldu1reg = s.ldu1reg := rfl
@[simp] theorem State.appendChip_fichreg (s : State) (c : Byte) : (s.appendChip c).fichreg = s.fichreg := rfl
@[simp] theorem State.appendChip_sdacc (s : State) (c : Byte) : (s.appendChip c).sdacc = s.sdacc := rfl
@[simp] theorem State.appendChip_rdata (s : State) (c : Byte) : (s.appendChip c).rdata = s.rdata := rfl
@[simp] theorem State.appendChip_outCount (s : State) (c : Byte) : (s.appendChip c).outCount = s.outCount := rfl
@[simp] theorem State.appendChip_out (s : State) (c : Byte) : (s.appendChip c).out = s.out := rfl
@[simp] theorem State.appendChip_port (s : State) (c : Byte) : (s.appendChip c).port = s.port := rfl
@[simp] theorem State.appendChip_draws (s : State) (c : Byte) : (s.appendChip c).draws = s.draws := rfl
@[simp] theorem State.appendChip_channel (s : State) (c : Byte) : (s.appendChip c).channel = s.channel := rfl
@[simp] theorem State.appendChip_params (s : State) (c : Byte) : (s.appendChip c).params = s.params := rfl

/-! ### State.setRdata -/

@[simp] theorem State.setRdata_lc (s : State) (v : Word) : (s.setRdata v).lc = s.lc := rfl
@[simp] theorem State.setRdata_cfg (s : State) (v : Word) : (s.setRdata v).cfg = s.cfg := rfl
@[simp] theorem State.setRdata_code (s : State) (v : Word) : (s.setRdata v).code = s.code := rfl
@[simp] theorem State.setRdata_sticky (s : State) (v : Word) : (s.setRdata v).sticky = s.sticky := rfl
@[simp] theorem State.setRdata_errcode (s : State) (v : Word) : (s.setRdata v).errcode = s.errcode := rfl
@[simp] theorem State.setRdata_dstate (s : State) (v : Word) : (s.setRdata v).dstate = s.dstate := rfl
@[simp] theorem State.setRdata_ib (s : State) (v : Word) : (s.setRdata v).ib = s.ib := rfl
@[simp] theorem State.setRdata_sb (s : State) (v : Word) : (s.setRdata v).sb = s.sb := rfl
@[simp] theorem State.setRdata_fb (s : State) (v : Word) : (s.setRdata v).fb = s.fb := rfl
@[simp] theorem State.setRdata_exp (s : State) (v : Word) : (s.setRdata v).exp = s.exp := rfl
@[simp] theorem State.setRdata_nidreg (s : State) (v : Word) : (s.setRdata v).nidreg = s.nidreg := rfl
@[simp] theorem State.setRdata_ldu1reg (s : State) (v : Word) : (s.setRdata v).ldu1reg = s.ldu1reg := rfl
@[simp] theorem State.setRdata_fichreg (s : State) (v : Word) : (s.setRdata v).fichreg = s.fichreg := rfl
@[simp] theorem State.setRdata_sdacc (s : State) (v : Word) : (s.setRdata v).sdacc = s.sdacc := rfl
@[simp] theorem State.setRdata_rdata (s : State) (v : Word) : (s.setRdata v).rdata = v := rfl
@[simp] theorem State.setRdata_outCount (s : State) (v : Word) : (s.setRdata v).outCount = s.outCount := rfl
@[simp] theorem State.setRdata_out (s : State) (v : Word) : (s.setRdata v).out = s.out := rfl
@[simp] theorem State.setRdata_port (s : State) (v : Word) : (s.setRdata v).port = s.port := rfl
@[simp] theorem State.setRdata_draws (s : State) (v : Word) : (s.setRdata v).draws = s.draws := rfl
@[simp] theorem State.setRdata_channel (s : State) (v : Word) : (s.setRdata v).channel = s.channel := rfl
@[simp] theorem State.setRdata_params (s : State) (v : Word) : (s.setRdata v).params = s.params := rfl

/-! ### State.restartData -/

@[simp] theorem State.restartData_lc (s : State) (d : DState) : (s.restartData d).lc = s.lc := rfl
@[simp] theorem State.restartData_cfg (s : State) (d : DState) : (s.restartData d).cfg = s.cfg := rfl
@[simp] theorem State.restartData_code (s : State) (d : DState) : (s.restartData d).code = s.code := rfl
@[simp] theorem State.restartData_sticky (s : State) (d : DState) : (s.restartData d).sticky = s.sticky := rfl
@[simp] theorem State.restartData_errcode (s : State) (d : DState) : (s.restartData d).errcode = s.errcode := rfl
@[simp] theorem State.restartData_dstate (s : State) (d : DState) : (s.restartData d).dstate = d := rfl
@[simp] theorem State.restartData_ib (s : State) (d : DState) : (s.restartData d).ib = [] := rfl
@[simp] theorem State.restartData_sb (s : State) (d : DState) : (s.restartData d).sb = [] := rfl
@[simp] theorem State.restartData_fb (s : State) (d : DState) : (s.restartData d).fb = [] := rfl
@[simp] theorem State.restartData_exp (s : State) (d : DState) : (s.restartData d).exp = 0 := rfl
@[simp] theorem State.restartData_nidreg (s : State) (d : DState) : (s.restartData d).nidreg = [] := rfl
@[simp] theorem State.restartData_ldu1reg (s : State) (d : DState) : (s.restartData d).ldu1reg = [] := rfl
@[simp] theorem State.restartData_fichreg (s : State) (d : DState) : (s.restartData d).fichreg = [] := rfl
@[simp] theorem State.restartData_sdacc (s : State) (d : DState) : (s.restartData d).sdacc = [] := rfl
@[simp] theorem State.restartData_rdata (s : State) (d : DState) : (s.restartData d).rdata = s.rdata := rfl
@[simp] theorem State.restartData_outCount (s : State) (d : DState) : (s.restartData d).outCount = 0 := rfl
@[simp] theorem State.restartData_out (s : State) (d : DState) : (s.restartData d).out = s.out := rfl
@[simp] theorem State.restartData_port (s : State) (d : DState) : (s.restartData d).port = s.port := rfl
@[simp] theorem State.restartData_draws (s : State) (d : DState) : (s.restartData d).draws = s.draws := rfl
@[simp] theorem State.restartData_channel (s : State) (d : DState) : (s.restartData d).channel = s.channel := rfl
@[simp] theorem State.restartData_params (s : State) (d : DState) : (s.restartData d).params = s.params := rfl

/-! ### State.construct -/

@[simp] theorem State.construct_lc (s : State) (p : Personality) : (s.construct p).lc = .ready := rfl
@[simp] theorem State.construct_cfg (s : State) (p : Personality) : (s.construct p).cfg = s.cfg := rfl
@[simp] theorem State.construct_code (s : State) (p : Personality) : (s.construct p).code = s.code := rfl
@[simp] theorem State.construct_sticky (s : State) (p : Personality) : (s.construct p).sticky = s.sticky := rfl
@[simp] theorem State.construct_errcode (s : State) (p : Personality) : (s.construct p).errcode = .none := rfl
@[simp] theorem State.construct_dstate (s : State) (p : Personality) : (s.construct p).dstate = p.startState := rfl
@[simp] theorem State.construct_ib (s : State) (p : Personality) : (s.construct p).ib = [] := rfl
@[simp] theorem State.construct_sb (s : State) (p : Personality) : (s.construct p).sb = [] := rfl
@[simp] theorem State.construct_fb (s : State) (p : Personality) : (s.construct p).fb = [] := rfl
@[simp] theorem State.construct_exp (s : State) (p : Personality) : (s.construct p).exp = 0 := rfl
@[simp] theorem State.construct_nidreg (s : State) (p : Personality) : (s.construct p).nidreg = [] := rfl
@[simp] theorem State.construct_ldu1reg (s : State) (p : Personality) : (s.construct p).ldu1reg = [] := rfl
@[simp] theorem State.construct_fichreg (s : State) (p : Personality) : (s.construct p).fichreg = [] := rfl
@[simp] theorem State.construct_sdacc (s : State) (p : Personality) : (s.construct p).sdacc = [] := rfl
@[simp] theorem State.construct_rdata (s : State) (p : Personality) : (s.construct p).rdata = s.rdata := rfl
@[simp] theorem State.construct_outCount (s : State) (p : Personality) : (s.construct p).outCount = 0 := rfl
@[simp] theorem State.construct_out (s : State) (p : Personality) : (s.construct p).out = s.out := rfl
@[simp] theorem State.construct_port (s : State) (p : Personality) : (s.construct p).port = s.port := rfl
@[simp] theorem State.construct_draws (s : State) (p : Personality) : (s.construct p).draws = s.draws := rfl
@[simp] theorem State.construct_channel (s : State) (p : Personality) : (s.construct p).channel = s.channel := rfl
@[simp] theorem State.construct_params (s : State) (p : Personality) : (s.construct p).params = s.params := rfl

/-! ### State.constructFailed -/

@[simp] theorem State.constructFailed_lc (s : State) (e : ErrCode) : (s.constructFailed e).lc = .cfgError := rfl
@[simp] theorem State.constructFailed_cfg (s : State) (e : ErrCode) : (s.constructFailed e).cfg = s.cfg := rfl
@[simp] theorem State.constructFailed_code (s : State) (e : ErrCode) : (s.constructFailed e).code = s.code := rfl
@[simp] theorem State.constructFailed_sticky (s : State) (e : ErrCode) : (s.constructFailed e).sticky = s.sticky := rfl
@[simp] theorem State.constructFailed_errcode (s : State) (e : ErrCode) : (s.constructFailed e).errcode = e := rfl
@[simp] theorem State.constructFailed_dstate (s : State) (e : ErrCode) : (s.constructFailed e).dstate = .idle := rfl
@[simp] theorem State.constructFailed_ib (s : State) (e : ErrCode) : (s.constructFailed e).ib = s.ib := rfl
@[simp] theorem State.constructFailed_sb (s : State) (e : ErrCode) : (s.constructFailed e).sb = s.sb := rfl
@[simp] theorem State.constructFailed_fb (s : State) (e : ErrCode) : (s.constructFailed e).fb = s.fb := rfl
@[simp] theorem State.constructFailed_exp (s : State) (e : ErrCode) : (s.constructFailed e).exp = s.exp := rfl
@[simp] theorem State.constructFailed_nidreg (s : State) (e : ErrCode) : (s.constructFailed e).nidreg = s.nidreg := rfl
@[simp] theorem State.constructFailed_ldu1reg (s : State) (e : ErrCode) : (s.constructFailed e).ldu1reg = s.ldu1reg := rfl
@[simp] theorem State.constructFailed_fichreg (s : State) (e : ErrCode) : (s.constructFailed e).fichreg = s.fichreg := rfl
@[simp] theorem State.constructFailed_sdacc (s : State) (e : ErrCode) : (s.constructFailed e).sdacc = s.sdacc := rfl
@[simp] theorem State.constructFailed_rdata (s : State) (e : ErrCode) : (s.constructFailed e).rdata = s.rdata := rfl
@[simp] theorem State.constructFailed_outCount (s : State) (e : ErrCode) : (s.constructFailed e).outCount = s.outCount := rfl
@[simp] theorem State.constructFailed_out (s : State) (e : ErrCode) : (s.constructFailed e).out = s.out := rfl
@[simp] theorem State.constructFailed_port (s : State) (e : ErrCode) : (s.constructFailed e).port = s.port := rfl
@[simp] theorem State.constructFailed_draws (s : State) (e : ErrCode) : (s.constructFailed e).draws = s.draws := rfl
@[simp] theorem State.constructFailed_channel (s : State) (e : ErrCode) : (s.constructFailed e).channel = s.channel := rfl
@[simp] theorem State.constructFailed_params (s : State) (e : ErrCode) : (s.constructFailed e).params = s.params := rfl

/-! ### State.dropUnits -/

@[simp] theorem State.dropUnits_lc (s : State) (n : Nat) : (s.dropUnits n).lc = s.lc := rfl
@[simp] theorem State.dropUnits_cfg (s : State) (n : Nat) : (s.dropUnits n).cfg = s.cfg := rfl
@[simp] theorem State.dropUnits_code (s : State) (n : Nat) : (s.dropUnits n).code = s.code := rfl
@[simp] theorem State.dropUnits_sticky (s : State) (n : Nat) : (s.dropUnits n).sticky = s.sticky := rfl
@[simp] theorem State.dropUnits_errcode (s : State) (n : Nat) : (s.dropUnits n).errcode = s.errcode := rfl
@[simp] theorem State.dropUnits_dstate (s : State) (n : Nat) : (s.dropUnits n).dstate = s.dstate := rfl
@[simp] theorem State.dropUnits_ib (s : State) (n : Nat) : (s.dropUnits n).ib = s.ib.drop n := rfl
@[simp] theorem State.dropUnits_sb (s : State) (n : Nat) : (s.dropUnits n).sb = s.sb := rfl
@[simp] theorem State.dropUnits_fb (s : State) (n : Nat) : (s.dropUnits n).fb = s.fb := rfl
@[simp] theorem State.dropUnits_exp (s : State) (n : Nat) : (s.dropUnits n).exp = s.exp := rfl
@[simp] theorem State.dropUnits_nidreg (s : State) (n : Nat) : (s.dropUnits n).nidreg = s.nidreg := rfl
@[simp] theorem State.dropUnits_ldu1reg (s : State) (n : Nat) : (s.dropUnits n).ldu1reg = s.ldu1reg := rfl
@[simp] theorem State.dropUnits_fichreg (s : State) (n : Nat) : (s.dropUnits n).fichreg = s.fichreg := rfl
@[simp] theorem State.dropUnits_sdacc (s : State) (n : Nat) : (s.dropUnits n).sdacc = s.sdacc := rfl
@[simp] theorem State.dropUnits_rdata (s : State) (n : Nat) : (s.dropUnits n).rdata = s.rdata := rfl
@[simp] theorem State.dropUnits_outCount (s : State) (n : Nat) : (s.dropUnits n).outCount = s.outCount := rfl
@[simp] theorem State.dropUnits_out (s : State) (n : Nat) : (s.dropUnits n).out = s.out := rfl
@[simp] theorem State.dropUnits_port (s : State) (n : Nat) : (s.dropUnits n).port = s.port := rfl
@[simp] theorem State.dropUnits_draws (s : State) (n : Nat) : (s.dropUnits n).draws = s.draws := rfl
@[simp] theorem State.dropUnits_channel (s : State) (n : Nat) : (s.dropUnits n).channel = s.channel := rfl
@[simp] theorem State.dropUnits_params (s : State) (n : Nat) : (s.dropUnits n).params = s.params := rfl

/-! ### State.expect -/

@[simp] theorem State.expect_lc (s : State) (d : DState) (n : Nat) : (s.expect d n).lc = s.lc := rfl
@[simp] theorem State.expect_cfg (s : State) (d : DState) (n : Nat) : (s.expect d n).cfg = s.cfg := rfl
@[simp] theorem State.expect_code (s : State) (d : DState) (n : Nat) : (s.expect d n).code = s.code := rfl
@[simp] theorem State.expect_sticky (s : State) (d : DState) (n : Nat) : (s.expect d n).sticky = s.sticky := rfl
@[simp] theorem State.expect_errcode (s : State) (d : DState) (n : Nat) : (s.expect d n).errcode = s.errcode := rfl
@[simp] theorem State.expect_dstate (s : State) (d : DState) (n : Nat) : (s.expect d n).dstate = d := rfl
@[simp] theorem State.expect_ib (s : State) (d : DState) (n : Nat) : (s.expect d n).ib = s.ib := rfl
@[simp] theorem State.expect_sb (s : State) (d : DState) (n : Nat) : (s.expect d n).sb = s.sb := rfl
@[simp] theorem State.expect_fb (s : State) (d : DState) (n : Nat) : (s.expect d n).fb = s.fb := rfl
@[simp] theorem State.expect_exp (s : State) (d : DState) (n : Nat) : (s.expect d n).exp = n := rfl
@[simp] theorem State.expect_nidreg (s : State) (d : DState) (n : Nat) : (s.expect d n).nidreg = s.nidreg := rfl
@[simp] theorem State.expect_ldu1reg (s : State) (d : DState) (n : Nat) : (s.expect d n).ldu1reg = s.ldu1reg := rfl
@[simp] theorem State.expect_fichreg (s : State) (d : DState) (n : Nat) : (s.expect d n).fichreg = s.fichreg := rfl
@[simp] theorem State.expect_sdacc (s : State) (d : DState) (n : Nat) : (s.expect d n).sdacc = s.sdacc := rfl
@[simp] theorem State.expect_rdata (s : State) (d : DState) (n : Nat) : (s.expect d n).rdata = s.rdata := rfl
@[simp] theorem State.expect_outCount (s : State) (d : DState) (n : Nat) : (s.expect d n).outCount = s.outCount := rfl
@[simp] theorem State.expect_out (s : State) (d : DState) (n : Nat) : (s.expect d n).out = s.out := rfl
@[simp] theorem State.expect_port (s : State) (d : DState) (n : Nat) : (s.expect d n).port = s.port := rfl
@[simp] theorem State.expect_draws (s : State) (d : DState) (n : Nat) : (s.expect d n).draws = s.draws := rfl
@[simp] theorem State.expect_channel (s : State) (d : DState) (n : Nat) : (s.expect d n).channel = s.channel := rfl
@[simp] theorem State.expect_params (s : State) (d : DState) (n : Nat) : (s.expect d n).params = s.params := rfl

/-! ### State.collect -/

@[simp] theorem State.collect_lc (s : State) : (s.collect).lc = s.lc := rfl
@[simp] theorem State.collect_cfg (s : State) : (s.collect).cfg = s.cfg := rfl
@[simp] theorem State.collect_code (s : State) : (s.collect).code = s.code := rfl
@[simp] theorem State.collect_sticky (s : State) : (s.collect).sticky = s.sticky := rfl
@[simp] theorem State.collect_errcode (s : State) : (s.collect).errcode = s.errcode := rfl
@[simp] theorem State.collect_dstate (s : State) : (s.collect).dstate = s.dstate := rfl
@[simp] theorem State.collect_ib (s : State) : (s.collect).ib = (collectUnits s.exp s.fb s.ib).2 := rfl
@[simp] theorem State.collect_sb (s : State) : (s.collect).sb = s.sb := rfl
@[simp] theorem State.collect_fb (s : State) : (s.collect).fb = (collectUnits s.exp s.fb s.ib).1 := rfl
@[simp] theorem State.collect_exp (s : State) : (s.collect).exp = s.exp := rfl
@[simp] theorem State.collect_nidreg (s : State) : (s.collect).nidreg = s.nidreg := rfl
@[simp] theorem State.collect_ldu1reg (s : State) : (s.collect).ldu1reg = s.ldu1reg := rfl
@[simp] theorem State.collect_fichreg (s : State) : (s.collect).fichreg = s.fichreg := rfl
@[simp] theorem State.collect_sdacc (s : State) : (s.collect).sdacc = s.sdacc := rfl
@[simp] theorem State.collect_rdata (s : State) : (s.collect).rdata = s.rdata := rfl
@[simp] theorem State.collect_outCount (s : State) : (s.collect).outCount = s.outCount := rfl
@[simp] theorem State.collect_out (s : State) : (s.collect).out = s.out := rfl
@[simp] theorem State.collect_port (s : State) : (s.collect).port = s.port := rfl
@[simp] theorem State.collect_draws (s : State) : (s.collect).draws = s.draws := rfl
@[simp] theorem State.collect_channel (s : State) : (s.collect).channel = s.channel := rfl
@[simp] theorem State.collect_params (s : State) : (s.collect).params = s.params := rfl

/-! ### State.endFrame -/

@[simp] theorem State.endFrame_lc (s : State) : (s.endFrame).lc = s.lc := rfl
@[simp] theorem State.endFrame_cfg (s : State) : (s.endFrame).cfg = s.cfg := rfl
@[simp] theorem State.endFrame_code (s : State) : (s.endFrame).code = s.code := rfl
@[simp] theorem State.endFrame_sticky (s : State) : (s.endFrame).sticky = s.sticky := rfl
@[simp] theorem State.endFrame_errcode (s : State) : (s.endFrame).errcode = s.errcode := rfl
@[simp] theorem State.endFrame_dstate (s : State) : (s.endFrame).dstate = .syncSearch := rfl
@[simp] theorem State.endFrame_ib (s : State) : (s.endFrame).ib = s.ib := rfl
@[simp] theorem State.endFrame_sb (s : State) : (s.endFrame).sb = s.sb := rfl
@[simp] theorem State.endFrame_fb (s : State) : (s.endFrame).fb = [] := rfl
@[simp] theorem State.endFrame_exp (s : State) : (s.endFrame).exp = 0 := rfl
@[simp] theorem State.endFrame_nidreg (s : State) : (s.endFrame).nidreg = [] := rfl
@[simp] theorem State.endFrame_ldu1reg (s : State) : (s.endFrame).ldu1reg = [] := rfl
@[simp] theorem State.endFrame_fichreg (s : State) : (s.endFrame).fichreg = [] := rfl
@[simp] theorem State.endFrame_sdacc (s : State) : (s.endFrame).sdacc = s.sdacc := rfl
@[simp] theorem State.endFrame_rdata (s : State) : (s.endFrame).rdata = s.rdata := rfl
@[simp] theorem State.endFrame_outCount (s : State) : (s.endFrame).outCount = s.outCount := rfl
@[simp] theorem State.endFrame_out (s : State) : (s.endFrame).out = s.out := rfl
@[simp] theorem State.endFrame_port (s : State) : (s.endFrame).port = s.port := rfl
@[simp] theorem State.endFrame_draws (s : State) : (s.endFrame).draws = s.draws := rfl
@[simp] theorem State.endFrame_channel (s : State) : (s.endFrame).channel = s.channel := rfl
@[simp] theorem State.endFrame_params (s : State) : (s.endFrame).params = s.params := rfl

/-! ### State.keepSync -/

@[simp] theorem State.keepSync_lc (s : State) : (s.keepSync).lc = s.lc := rfl
@[simp] theorem State.keepSync_cfg (s : State) : (s.keepSync).cfg = s.cfg := rfl
@[simp] theorem State.keepSync_code (s : State) : (s.keepSync).code = s.code := rfl
@[simp] theorem State.keepSync_sticky (s : State) : (s.keepSync).sticky = s.sticky := rfl
@[simp] theorem State.keepSync_errcode (s : State) : (s.keepSync).errcode = s.errcode := rfl
@[simp] theorem State.keepSync_dstate (s : State) : (s.keepSync).dstate = s.dstate := rfl
@[simp] theorem State.keepSync_ib (s : State) : (s.keepSync).ib = s.ib.drop 2 := rfl
@[simp] theorem State.keepSync_sb (s : State) : (s.keepSync).sb = s.sb := rfl
@[simp] theorem State.keepSync_fb (s : State) : (s.keepSync).fb = s.ib.take 2 := rfl
@[simp] theorem State.keepSync_exp (s : State) : (s.keepSync).exp = s.exp := rfl
@[simp] theorem State.keepSync_nidreg (s : State) : (s.keepSync).nidreg = s.nidreg := rfl
@[simp] theorem State.keepSync_ldu1reg (s : State) : (s.keepSync).ldu1reg = s.ldu1reg := rfl
@[simp] theorem State.keepSync_fichreg (s : State) : (s.keepSync).fichreg = s.fichreg := rfl
@[simp] theorem State.keepSync_sdacc (s : State) : (s.keepSync).sdacc = s.sdacc := rfl
@[simp] theorem State.keepSync_rdata (s : State) : (s.keepSync).rdata = s.rdata := rfl
@[simp] theorem State.keepSync_outCount (s : State) : (s.keepSync).outCount = s.outCount := rfl
@[simp] theorem State.keepSync_out (s : State) : (s.keepSync).out = s.out := rfl
@[simp] theorem State.keepSync_port (s : State) : (s.keepSync).port = s.port := rfl
@[simp] theorem State.keepSync_draws (s : State) : (s.keepSync).draws = s.draws := rfl
@[simp] theorem State.keepSync_channel (s : State) : (s.keepSync).channel = s.channel := rfl
@[simp] theorem State.keepSync_params (s : State) : (s.keepSync).params = s.params := rfl

/-! ### State.setSdacc -/

@[simp] theorem State.setSdacc_lc (s : State) (v : List Bool) : (s.setSdacc v).lc = s.lc := rfl
@[simp] theorem State.setSdacc_cfg (s : State) (v : List Bool) : (s.setSdacc v).cfg = s.cfg := rfl
@[simp] theorem State.setSdacc_code (s : State) (v : List Bool) : (s.setSdacc v).code = s.code := rfl
@[simp] theorem State.setSdacc_sticky (s : State) (v : List Bool) : (s.setSdacc v).sticky = s.sticky := rfl
@[simp] theorem State.setSdacc_errcode (s : State) (v : List Bool) : (s.setSdacc v).errcode = s.errcode := rfl
@[simp] theorem State.setSdacc_dstate (s : State) (v : List Bool) : (s.setSdacc v).dstate = s.dstate := rfl
@[simp] theorem State.setSdacc_ib (s : State) (v : List Bool) : (s.setSdacc v).ib = s.ib := rfl
@[simp] theorem State.setSdacc_sb (s : State) (v : List Bool) : (s.setSdacc v).sb = s.sb := rfl
@[simp] theorem State.setSdacc_fb (s : State) (v : List Bool) : (s.setSdacc v).fb = s.fb := rfl
@[simp] theorem State.setSdacc_exp (s : State) (v : List Bool) : (s.setSdacc v).exp = s.exp := rfl
@[simp] theorem State.setSdacc_nidreg (s : State) (v : List Bool) : (s.setSdacc v).nidreg = s.nidreg := rfl
@[simp] theorem State.setSdacc_ldu1reg (s : State) (v : List Bool) : (s.setSdacc v).ldu1reg = s.ldu1reg := rfl
@[simp] theorem State.setSdacc_fichreg (s : State) (v : List Bool) : (s.setSdacc v).fichreg = s.fichreg := rfl
@[simp] theorem State.setSdacc_sdacc (s : State) (v : List Bool) : (s.setSdacc v).sdacc = v := rfl
@[simp] theorem State.setSdacc_rdata (s : State) (v : List Bool) : (s.setSdacc v).rdata = s.rdata := rfl
@[simp] theorem State.setSdacc_outCount (s : State) (v : List Bool) : (s.setSdacc v).outCount = s.outCount := rfl
@[simp] theorem State.setSdacc_out (s : State) (v : List Bool) : (s.setSdacc v).out = s.out := rfl
@[simp] theorem State.setSdacc_port (s : State) (v : List Bool) : (s.setSdacc v).port = s.port := rfl
@[simp] theorem State.setSdacc_draws (s : State) (v : List Bool) : (s.setSdacc v).draws = s.draws := rfl
@[simp] theorem State.setSdacc_channel (s : State) (v : List Bool) : (s.setSdacc v).channel = s.channel := rfl
@[simp] theorem State.setSdacc_params (s : State) (v : List Bool) : (s.setSdacc v).params = s.params := rfl

/-! ### State.holdNid -/

@[simp] theorem State.holdNid_lc (s : State) : (s.holdNid).lc = s.lc := rfl
@[simp] theorem State.holdNid_cfg (s : State) : (s.holdNid).cfg = s.cfg := rfl
@[simp] theorem State.holdNid_code (s : State) : (s.holdNid).code = s.code := rfl
@[simp] theorem State.holdNid_sticky (s : State) : (s.holdNid).sticky = s.sticky := rfl
@[simp] theorem State.holdNid_errcode (s : State) : (s.holdNid).errcode = s.errcode := rfl
@[simp] theorem State.holdNid_dstate (s : State) : (s.holdNid).dstate = s.dstate := rfl
@[simp] theorem State.holdNid_ib (s : State) : (s.holdNid).ib = s.ib := rfl
@[simp] theorem State.holdNid_sb (s : State) : (s.holdNid).sb = s.sb := rfl
@[simp] theorem State.holdNid_fb (s : State) : (s.holdNid).fb = [] := rfl
@[simp] theorem State.holdNid_exp (s : State) : (s.holdNid).exp = s.exp := rfl
@[simp] theorem State.holdNid_nidreg (s : State) : (s.holdNid).nidreg = s.fb := rfl
@[simp] theorem State.holdNid_ldu1reg (s : State) : (s.holdNid).ldu1reg = s.ldu1reg := rfl
@[simp] theorem State.holdNid_fichreg (s : State) : (s.holdNid).fichreg = s.fichreg := rfl
@[simp] theorem State.holdNid_sdacc (s : State) : (s.holdNid).sdacc = s.sdacc := rfl
@[simp] theorem State.holdNid_rdata (s : State) : (s.holdNid).rdata = s.rdata := rfl
@[simp] theorem State.holdNid_outCount (s : State) : (s.holdNid).outCount = s.outCount := rfl
@[simp] theorem State.holdNid_out (s : State) : (s.holdNid).out = s.out := rfl
@[simp] theorem State.holdNid_port (s : State) : (s.holdNid).port = s.port := rfl
@[simp] theorem State.holdNid_draws (s : State) : (s.holdNid).draws = s.draws := rfl
@[simp] theorem State.holdNid_channel (s : State) : (s.holdNid).channel = s.channel := rfl
@[simp] theorem State.holdNid_params (s : State) : (s.holdNid).params = s.params := rfl

/-! ### State.holdLdu1 -/

@[simp] theorem State.holdLdu1_lc (s : State) : (s.holdLdu1).lc = s.lc := rfl
@[simp] theorem State.holdLdu1_cfg (s : State) : (s.holdLdu1).cfg = s.cfg := rfl
@[simp] theorem State.holdLdu1_code (s : State) : (s.holdLdu1).code = s.code := rfl
@[simp] theorem State.holdLdu1_sticky (s : State) : (s.holdLdu1).sticky = s.sticky := rfl
@[simp] theorem State.holdLdu1_errcode (s : State) : (s.holdLdu1).errcode = s.errcode := rfl
@[simp] theorem State.holdLdu1_dstate (s : State) : (s.holdLdu1).dstate = s.dstate := rfl
@[simp] theorem State.holdLdu1_ib (s : State) : (s.holdLdu1).ib = s.ib := rfl
@[simp] theorem State.holdLdu1_sb (s : State) : (s.holdLdu1).sb = s.sb := rfl
@[simp] theorem State.holdLdu1_fb (s : State) : (s.holdLdu1).fb = [] := rfl
@[simp] theorem State.holdLdu1_exp (s : State) : (s.holdLdu1).exp = s.exp := rfl
@[simp] theorem State.holdLdu1_nidreg (s : State) : (s.holdLdu1).nidreg = s.nidreg := rfl
@[simp] theorem State.holdLdu1_ldu1reg (s : State) : (s.holdLdu1).ldu1reg = s.fb := rfl
@[simp] theorem State.holdLdu1_fichreg (s : State) : (s.holdLdu1).fichreg = s.fichreg := rfl
@[simp] theorem State.holdLdu1_sdacc (s : State) : (s.holdLdu1).sdacc = s.sdacc := rfl
@[simp] theorem State.holdLdu1_rdata (s : State) : (s.holdLdu1).rdata = s.rdata := rfl
@[simp] theorem State.holdLdu1_outCount (s : State) : (s.holdLdu1).outCount = s.outCount := rfl
@[simp] theorem State.holdLdu1_out (s : State) : (s.holdLdu1).out = s.out := rfl
@[simp] theorem State.holdLdu1_port (s : State) : (s.holdLdu1).port = s.port := rfl
@[simp] theorem State.holdLdu1_draws (s : State) : (s.holdLdu1).draws = s.draws := rfl
@[simp] theorem State.holdLdu1_channel (s : State) : (s.holdLdu1).channel = s.channel := rfl
@[simp] theorem State.holdLdu1_params (s : State) : (s.holdLdu1).params = s.params := rfl

/-! ### State.holdFich -/

@[simp] theorem State.holdFich_lc (s : State) : (s.holdFich).lc = s.lc := rfl
@[simp] theorem State.holdFich_cfg (s : State) : (s.holdFich).cfg = s.cfg := rfl
@[simp] theorem State.holdFich_code (s : State) : (s.holdFich).code = s.code := rfl
@[simp] theorem State.holdFich_sticky (s : State) : (s.holdFich).sticky = s.sticky := rfl
@[simp] theorem State.holdFich_errcode (s : State) : (s.holdFich).errcode = s.errcode := rfl
@[simp] theorem State.holdFich_dstate (s : State) : (s.holdFich).dstate = s.dstate := rfl
@[simp] theorem State.holdFich_ib (s : State) : (s.holdFich).ib = s.ib := rfl
@[simp] theorem State.holdFich_sb (s : State) : (s.holdFich).sb = s.sb := rfl
@[simp] theorem State.holdFich_fb (s : State) : (s.holdFich).fb = [] := rfl
@[simp] theorem State.holdFich_exp (s : State) : (s.holdFich).exp = s.exp := rfl
@[simp] theorem State.holdFich_nidreg (s : State) : (s.holdFich).nidreg = s.nidreg := rfl
@[simp] theorem State.holdFich_ldu1reg (s : State) : (s.holdFich).ldu1reg = s.ldu1reg := rfl
@[simp] theorem State.holdFich_fichreg (s : State) : (s.holdFich).fichreg = s.fb := rfl
@[simp] theorem State.holdFich_sdacc (s : State) : (s.holdFich).sdacc = s.sdacc := rfl
@[simp] theorem State.holdFich_rdata (s : State) : (s.holdFich).rdata = s.rdata := rfl
@[simp] theorem State.holdFich_outCount (s : State) : (s.holdFich).outCount = s.outCount := rfl
@[simp] theorem State.holdFich_out (s : State) : (s.holdFich).out = s.out := rfl
@[simp] theorem State.holdFich_port (s : State) : (s.holdFich).port = s.port := rfl
@[simp] theorem State.holdFich_draws (s : State) : (s.holdFich).draws = s.draws := rfl
@[simp] theorem State.holdFich_channel (s : State) : (s.holdFich).channel = s.channel := rfl
@[simp] theorem State.holdFich_params (s : State) : (s.holdFich).params = s.params := rfl

/-! ### State.countDraw -/

@[simp] theorem State.countDraw_lc (s : State) : (s.countDraw).lc = s.lc := rfl
@[simp] theorem State.countDraw_cfg (s : State) : (s.countDraw).cfg = s.cfg := rfl
@[simp] theorem State.countDraw_code (s : State) : (s.countDraw).code = s.code := rfl
@[simp] theorem State.countDraw_sticky (s : State) : (s.countDraw).sticky = s.sticky := rfl
@[simp] theorem State.countDraw_errcode (s : State) : (s.countDraw).errcode = s.errcode := rfl
@[simp] theorem State.countDraw_dstate (s : State) : (s.countDraw).dstate = s.dstate := rfl
@[simp] theorem State.countDraw_ib (s : State) : (s.countDraw).ib = s.ib := rfl
@[simp] theorem State.countDraw_sb (s : State) : (s.countDraw).sb = s.sb := rfl
@[simp] theorem State.countDraw_fb (s : State) : (s.countDraw).fb = s.fb := rfl
@[simp] theorem State.countDraw_exp (s : State) : (s.countDraw).exp = s.exp := rfl
@[simp] theorem State.countDraw_nidreg (s : State) : (s.countDraw).nidreg = s.nidreg := rfl
@[simp] theorem State.countDraw_ldu1reg (s : State) : (s.countDraw).ldu1reg = s.ldu1reg := rfl
@[simp] theorem State.countDraw_fichreg (s : State) : (s.countDraw).fichreg = s.fichreg := rfl
@[simp] theorem State.countDraw_sdacc (s : State) : (s.countDraw).sdacc = s.sdacc := rfl
@[simp] theorem State.countDraw_rdata (s : State) : (s.countDraw).rdata = s.rdata := rfl
@[simp] theorem State.countDraw_outCount (s : State) : (s.countDraw).outCount = s.outCount := rfl
@[simp] theorem State.countDraw_out (s : State) : (s.countDraw).out = s.out := rfl
@[simp] theorem State.countDraw_port (s : State) : (s.countDraw).port = s.port := rfl
@[simp] theorem State.countDraw_draws (s : State) : (s.countDraw).draws = s.draws + 1 := rfl
@[simp] theorem State.countDraw_channel (s : State) : (s.countDraw).channel = s.channel := rfl
@[simp] theorem State.countDraw_params (s : State) : (s.countDraw).params = s.params := rfl

/-! ### State.emptyIb -/

@[simp] theorem State.emptyIb_lc (s : State) : (s.emptyIb).lc = s.lc := rfl
@[simp] theorem State.emptyIb_cfg (s : State) : (s.emptyIb).cfg = s.cfg := rfl
@[simp] theorem State.emptyIb_code (s : State) : (s.emptyIb).code = s.code := rfl
@[simp] theorem State.emptyIb_sticky (s : State) : (s.emptyIb).sticky = s.sticky := rfl
@[simp] theorem State.emptyIb_errcode (s : State) : (s.emptyIb).errcode = s.errcode := rfl
@[simp] theorem State.emptyIb_dstate (s : State) : (s.emptyIb).dstate = s.dstate := rfl
@[simp] theorem State.emptyIb_ib (s : State) : (s.emptyIb).ib = [] := rfl
@[simp] theorem State.emptyIb_sb (s : State) : (s.emptyIb).sb = s.sb := rfl
@[simp] theorem State.emptyIb_fb (s : State) : (s.emptyIb).fb = s.fb := rfl
@[simp] theorem State.emptyIb_exp (s : State) : (s.emptyIb).exp = s.exp := rfl
@[simp] theorem State.emptyIb_nidreg (s : State) : (s.emptyIb).nidreg = s.nidreg := rfl
@[simp] theorem State.emptyIb_ldu1reg (s : State) : (s.emptyIb).ldu1reg = s.ldu1reg := rfl
@[simp] theorem State.emptyIb_fichreg (s : State) : (s.emptyIb).fichreg = s.fichreg := rfl
@[simp] theorem State.emptyIb_sdacc (s : State) : (s.emptyIb).sdacc = s.sdacc := rfl
@[simp] theorem State.emptyIb_rdata (s : State) : (s.emptyIb).rdata = s.rdata := rfl
@[simp] theorem State.emptyIb_outCount (s : State) : (s.emptyIb).outCount = s.outCount := rfl
@[simp] theorem State.emptyIb_out (s : State) : (s.emptyIb).out = s.out := rfl
@[simp] theorem State.emptyIb_port (s : State) : (s.emptyIb).port = s.port := rfl
@[simp] theorem State.emptyIb_draws (s : State) : (s.emptyIb).draws = s.draws := rfl
@[simp] theorem State.emptyIb_channel (s : State) : (s.emptyIb).channel = s.channel := rfl
@[simp] theorem State.emptyIb_params (s : State) : (s.emptyIb).params = s.params := rfl

/-! ### State.dropSamples -/

@[simp] theorem State.dropSamples_lc (s : State) (n : Nat) : (s.dropSamples n).lc = s.lc := rfl
@[simp] theorem State.dropSamples_cfg (s : State) (n : Nat) : (s.dropSamples n).cfg = s.cfg := rfl
@[simp] theorem State.dropSamples_code (s : State) (n : Nat) : (s.dropSamples n).code = s.code := rfl
@[simp] theorem State.dropSamples_sticky (s : State) (n : Nat) : (s.dropSamples n).sticky = s.sticky := rfl
@[simp] theorem State.dropSamples_errcode (s : State) (n : Nat) : (s.dropSamples n).errcode = s.errcode := rfl
@[simp] theorem State.dropSamples_dstate (s : State) (n : Nat) : (s.dropSamples n).dstate = s.dstate := rfl
@[simp] theorem State.dropSamples_ib (s : State) (n : Nat) : (s.dropSamples n).ib = s.ib := rfl
@[simp] theorem State.dropSamples_sb (s : State) (n : Nat) : (s.dropSamples n).sb = s.sb.drop n := rfl
@[simp] theorem State.dropSamples_fb (s : State) (n : Nat) : (s.dropSamples n).fb = s.fb := rfl
@[simp] theorem State.dropSamples_exp (s : State) (n : Nat) : (s.dropSamples n).exp = s.exp := rfl
@[simp] theorem State.dropSamples_nidreg (s : State) (n : Nat) : (s.dropSamples n).nidreg = s.nidreg := rfl
@[simp] theorem State.dropSamples_ldu1reg (s : State) (n : Nat) : (s.dropSamples n).ldu1reg = s.ldu1reg := rfl
@[simp] theorem State.dropSamples_fichreg (s : State) (n : Nat) : (s.dropSamples n).fichreg = s.fichreg := rfl
@[simp] theorem State.dropSamples_sdacc (s : State) (n : Nat) : (s.dropSamples n).sdacc = s.sdacc := rfl
@[simp] theorem State.dropSamples_rdata (s : State) (n : Nat) : (s.dropSamples n).rdata = s.rdata := rfl
@[simp] theorem State.dropSamples_outCount (s : State) (n : Nat) : (s.dropSamples n).outCount = s.outCount := rfl
@[simp] theorem State.dropSamples_out (s : State) (n : Nat) : (s.dropSamples n).out = s.out := rfl
@[simp] theorem State.dropSamples_port (s : State) (n : Nat) : (s.dropSamples n).port = s.port := rfl
@[simp] theorem State.dropSamples_draws (s : State) (n : Nat) : (s.dropSamples n).draws = s.draws := rfl
@[simp] theorem State.dropSamples_channel (s : State) (n : Nat) : (s.dropSamples n).channel = s.channel := rfl
@[simp] theorem State.dropSamples_params (s : State) (n : Nat) : (s.dropSamples n).params = s.params := rfl

/-! ### State.withPort -/

@[simp] theorem State.withPort_lc (s : State) (p : List HostEvent) : (s.withPort p).lc = s.lc := rfl
@[simp] theorem State.withPort_cfg (s : State) (p : List HostEvent) : (s.withPort p).cfg = s.cfg := rfl
@[simp] theorem State.withPort_code (s : State) (p : List HostEvent) : (s.withPort p).code = s.code := rfl
@[simp] theorem State.withPort_sticky (s : State) (p : List HostEvent) : (s.withPort p).sticky = s.sticky := rfl
@[simp] theorem State.withPort_errcode (s : State) (p : List HostEvent) : (s.withPort p).errcode = s.errcode := rfl
@[simp] theorem State.withPort_dstate (s : State) (p : List HostEvent) : (s.withPort p).dstate = s.dstate := rfl
@[simp] theorem State.withPort_ib (s : State) (p : List HostEvent) : (s.withPort p).ib = s.ib := rfl
@[simp] theorem State.withPort_sb (s : State) (p : List HostEvent) : (s.withPort p).sb = s.sb := rfl
@[simp] theorem State.withPort_fb (s : State) (p : List HostEvent) : (s.withPort p).fb = s.fb := rfl
@[simp] theorem State.withPort_exp (s : State) (p : List HostEvent) : (s.withPort p).exp = s.exp := rfl
@[simp] theorem State.withPort_nidreg (s : State) (p : List HostEvent) : (s.withPort p).nidreg = s.nidreg := rfl
@[simp] theorem State.withPort_ldu1reg (s : State) (p : List HostEvent) : (s.withPort p).ldu1reg = s.ldu1reg := rfl
@[simp] theorem State.withPort_fichreg (s : State) (p : List HostEvent) : (s.withPort p).fichreg = s.fichreg := rfl
@[simp] theorem State.withPort_sdacc (s : State) (p : List HostEvent) : (s.withPort p).sdacc = s.sdacc := rfl
@[simp] theorem State.withPort_rdata (s : State) (p : List HostEvent) : (s.withPort p).rdata = s.rdata := rfl
@[simp] theorem State.withPort_outCount (s : State) (p : List HostEvent) : (s.withPort p).outCount = s.outCount := rfl
@[simp] theorem State.withPort_out (s : State) (p : List HostEvent) : (s.withPort p).out = s.out := rfl
@[simp] theorem State.withPort_port (s : State) (p : List HostEvent) : (s.withPort p).port = p := rfl
@[simp] theorem State.withPort_draws (s : State) (p : List HostEvent) : (s.withPort p).draws = s.draws := rfl
@[simp] theorem State.withPort_channel (s : State) (p : List HostEvent) : (s.withPort p).channel = s.channel := rfl
@[simp] theorem State.withPort_params (s : State) (p : List HostEvent) : (s.withPort p).params = s.params := rfl

/-! ### State.toReset -/

@[simp] theorem State.toReset_lc (s : State) : (s.toReset).lc = State.reset.lc := rfl
@[simp] theorem State.toReset_cfg (s : State) : (s.toReset).cfg = State.reset.cfg := rfl
@[simp] theorem State.toReset_code (s : State) : (s.toReset).code = State.reset.code := rfl
@[simp] theorem State.toReset_sticky (s : State) : (s.toReset).sticky = State.reset.sticky := rfl
@[simp] theorem State.toReset_errcode (s : State) : (s.toReset).errcode = State.reset.errcode := rfl
@[simp] theorem State.toReset_dstate (s : State) : (s.toReset).dstate = State.reset.dstate := rfl
@[simp] theorem State.toReset_ib (s : State) : (s.toReset).ib = State.reset.ib := rfl
@[simp] theorem State.toReset_sb (s : State) : (s.toReset).sb = State.reset.sb := rfl
@[simp] theorem State.toReset_fb (s : State) : (s.toReset).fb = State.reset.fb := rfl
@[simp] theorem State.toReset_exp (s : State) : (s.toReset).exp = State.reset.exp := rfl
@[simp] theorem State.toReset_nidreg (s : State) : (s.toReset).nidreg = State.reset.nidreg := rfl
@[simp] theorem State.toReset_ldu1reg (s : State) : (s.toReset).ldu1reg = State.reset.ldu1reg := rfl
@[simp] theorem State.toReset_fichreg (s : State) : (s.toReset).fichreg = State.reset.fichreg := rfl
@[simp] theorem State.toReset_sdacc (s : State) : (s.toReset).sdacc = State.reset.sdacc := rfl
@[simp] theorem State.toReset_rdata (s : State) : (s.toReset).rdata = State.reset.rdata := rfl
@[simp] theorem State.toReset_outCount (s : State) : (s.toReset).outCount = State.reset.outCount := rfl
@[simp] theorem State.toReset_out (s : State) : (s.toReset).out = s.out := rfl
@[simp] theorem State.toReset_port (s : State) : (s.toReset).port = s.port := rfl
@[simp] theorem State.toReset_draws (s : State) : (s.toReset).draws = s.draws := rfl
@[simp] theorem State.toReset_channel (s : State) : (s.toReset).channel = s.channel := rfl
@[simp] theorem State.toReset_params (s : State) : (s.toReset).params = s.params := rfl

end Sys2Proof.Machine
end

