-- ==== Sys2Proof/Laws/Ops.lean ====
section
/-! SUPPORT. What each shared operation can do, said once. -/

namespace Sys2Proof.Machine

/-! ## Faults and emission -/

@[simp] theorem raiseNext_eq (k : FaultKind) (s : State) : raiseNext k s = .next (s.raise k) := rfl

/-- Raising the same fault twice is raising it once. -/
theorem Sticky.set_set (k : FaultKind) (b : Sticky) : (b.set k).set k = b.set k := by cases k <;> rfl

theorem State.emitAll_cons (r : Record) (rs : List Record) (s : State) :
    s.emitAll (r :: rs) = (s.emit r).emitAll rs := rfl

/-- Emitting records appends them, counts them modulo 2^24, and changes nothing else (R66). -/
theorem State.emitAll_eq (rs : List Record) (s : State) :
    s.emitAll rs = { s with out := s.out ++ rs, outCount := s.outCount + BitVec.ofNat 24 rs.length } := by
  induction rs generalizing s with
  | nil => simp [State.emitAll]
  | cons r rs ih =>
    rw [State.emitAll_cons, ih]
    simp only [State.emit, List.length_cons, State.mk.injEq, List.append_assoc, List.singleton_append,
      true_and, and_true]
    rw [Nat.add_comm, BitVec.ofNat_add, BitVec.add_assoc]
    rfl

/-! ## Buffers -/

/-- Under the cap an append keeps the length at most the cap, if the cap is positive (R62). -/
theorem capAppend_length_le {α : Type} {cap : Nat} {buf : List α} (x : α) (hcap : 1 ≤ cap)
    (h : buf.length ≤ cap) : (capAppend cap buf x).length ≤ cap := by
  unfold capAppend
  split <;> simp <;> omega

/-- Below the cap an append loses nothing. -/
theorem capAppend_of_lt {α : Type} {cap : Nat} {buf : List α} (x : α) (h : buf.length < cap) :
    capAppend cap buf x = buf ++ [x] := by
  simp [capAppend, Nat.ne_of_lt h]

/-- At the cap the oldest element goes. -/
theorem capAppend_of_eq {α : Type} {cap : Nat} {buf : List α} (x : α) (h : buf.length = cap) :
    capAppend cap buf x = buf.drop 1 ++ [x] := by
  simp [capAppend, h]

/-- An element of the buffer after an append was there before or is the one appended. -/
theorem mem_of_mem_capAppend {α : Type} {cap : Nat} {buf : List α} {x y : α}
    (h : y ∈ capAppend cap buf x) : y ∈ buf ∨ y = x := by
  unfold capAppend at h
  rw [List.mem_append, List.mem_singleton] at h
  rcases h with h | h
  · split at h
    · exact .inl (List.mem_of_mem_drop h)
    · exact .inl h
  · exact .inr h

/-! ## Personality -/

/-- PROTO selects a personality exactly when it is 1 to 7 (R22). -/
theorem personalityOf_isSome (proto : Reg) :
    (personalityOf proto).isSome = true ↔ 1 ≤ proto.toNat ∧ proto.toNat ≤ 7 := by
  unfold personalityOf
  split <;> simp_all <;> omega

/-- READY or configurable, never both (R271). -/
@[simp] theorem State.isReady_iff (s : State) : s.isReady = true ↔ s.lc = .ready := by
  cases h : s.lc <;> simp [State.isReady, State.configurable, h]

@[simp] theorem State.configurable_iff (s : State) : s.configurable = true ↔ s.lc ≠ .ready := by
  cases h : s.lc <;> simp [State.configurable, h]

@[simp] theorem State.isDsssDec_iff (s : State) : s.isDsssDec = true ↔ s.personality = some .dsssDec := by
  simp [State.isDsssDec]

/-- A unit breaks the input contract only in a bit personality (R273). -/
theorem State.badUnit_iff (s : State) (u : Byte) :
    s.badUnit u = true ↔ ∃ p, s.personality = some p ∧ p.isBit = true ∧ 1 < u.toNat := by
  unfold State.badUnit
  split <;> simp_all

/-- What a configuration CONSTRUCT accepts satisfies (R114). -/
theorem checkConfig_ok {c : Cfg} {code : List Byte} {p : Personality} (h : checkConfig c code = .ok p) :
    personalityOf c.proto = some p ∧ checkThresh p c = true ∧ checkBufcap p c = true ∧
    checkM17Maxlen p c = true ∧ checkBaud p c = true ∧ checkCodeNonempty p code = true ∧
    checkChips p code = true ∧ checkSps p c = true ∧ checkSymbol p c code = true := by
  unfold checkConfig at h
  split at h
  · cases h
  · rename_i q hq
    rw [hq]
    repeat' (split at h; · cases h)
    cases h
    simp_all

/-- A failed CONSTRUCT has a cause (R275). -/
theorem checkConfig_error_ne_none {c : Cfg} {code : List Byte} {e : ErrCode}
    (h : checkConfig c code = .error e) : e ≠ .none := by
  unfold checkConfig at h
  split at h
  · cases h; decide
  · repeat' (split at h; · cases h; decide)
    cases h

/-! ## Collecting -/

/-- `collect()` moves as many units as FB lacks, or all there are (R161). -/
theorem collectUnits_eq (exp : Nat) (fb ib : List Byte) :
    collectUnits exp fb ib = (fb ++ ib.take (exp - fb.length), ib.drop (exp - fb.length)) := by
  induction ib generalizing fb with
  | nil => simp [collectUnits]
  | cons u us ih =>
    unfold collectUnits
    split
    · rename_i h
      rw [ih]
      have e : exp - fb.length = (exp - (fb ++ [u]).length) + 1 := by simp; omega
      rw [e, List.take_succ_cons, List.drop_succ_cons]
      simp
    · rename_i h
      have e : exp - fb.length = 0 := by omega
      simp [e]

/-- No unit is lost or changed by collecting (R161). -/
theorem collectUnits_append (exp : Nat) (fb ib : List Byte) :
    (collectUnits exp fb ib).1 ++ (collectUnits exp fb ib).2 = fb ++ ib := by
  rw [collectUnits_eq]; simp

/-- Collecting ends with FB full or IB empty (R161). -/
theorem collectUnits_full_or_empty (exp : Nat) (fb ib : List Byte) :
    exp ≤ (collectUnits exp fb ib).1.length ∨ (collectUnits exp fb ib).2 = [] := by
  rw [collectUnits_eq]
  by_cases h : exp - fb.length ≤ ib.length
  · left; simp; omega
  · right; simp; omega

/-! ## Search -/

/-- A pattern is chosen only from the list. -/
theorem choose_index {mode : Config.Granularity} {thresh : Nat} {win : List Byte} {k p m : Nat}
    {pats : List (List Byte)} (h : choose mode thresh win k pats = some (p, m)) :
    k ≤ p ∧ p < k + pats.length := by
  induction pats generalizing k p m with
  | nil => simp [choose] at h
  | cons pat pats ih =>
    unfold choose at h
    split at h
    · split at h
      · cases h; simp
      · cases h
    · rename_i q m' hq
      have hh := ih hq
      split at h
      · cases h; simp
      · cases h; simp; omega

/-- The match count of a window of two units, unit by unit (R141). -/
theorem matchCount_pair (mode : Config.Granularity) (a b x y : Byte) :
    matchCount mode [a, b] [x, y] = unitMatch mode a x + unitMatch mode b y := by
  simp [matchCount]

/-- Nothing is chosen exactly when no pattern qualifies (R144). -/
theorem choose_eq_none {mode : Config.Granularity} {thresh : Nat} {win : List Byte} {k : Nat}
    {pats : List (List Byte)} :
    choose mode thresh win k pats = none ↔ ∀ pat ∈ pats, qualifies mode thresh win pat = false := by
  induction pats generalizing k with
  | nil => simp [choose]
  | cons pat pats ih =>
    have hi := @ih (k + 1)
    unfold choose
    cases hc : choose mode thresh win (k + 1) pats with
    | none =>
      have hall := hi.mp hc
      cases hq : qualifies mode thresh win pat <;> simp_all
    | some r =>
      have hne : ¬ ∀ p ∈ pats, qualifies mode thresh win p = false := fun h => by
        rw [hi.mpr h] at hc; cases hc
      simp only [List.forall_mem_cons]
      constructor
      · intro h; split at h <;> cases h
      · exact fun h => absurd h.2 hne

/-- What is chosen (R145): a pattern that qualifies, with its count; every pattern of the list that qualifies has a
smaller count, or the same count and no lower index. -/
theorem choose_some {mode : Config.Granularity} {thresh : Nat} {win : List Byte} {k p m : Nat}
    {pats : List (List Byte)} (h : choose mode thresh win k pats = some (p, m)) :
    ∃ n pat, p = k + n ∧ pats[n]? = some pat ∧ qualifies mode thresh win pat = true ∧
      m = matchCount mode win pat ∧
      ∀ j pat', pats[j]? = some pat' → qualifies mode thresh win pat' = true →
        matchCount mode win pat' ≤ m ∧ (matchCount mode win pat' = m → n ≤ j) := by
  induction pats generalizing k p m with
  | nil => simp [choose] at h
  | cons pat pats ih =>
    unfold choose at h
    split at h
    · rename_i hn
      have hall := choose_eq_none.mp hn
      split at h
      · rename_i hq
        cases h
        refine ⟨0, pat, rfl, rfl, hq, rfl, fun j pat' hj hq' => ?_⟩
        cases j with
        | zero => cases hj; exact ⟨Nat.le_refl _, fun _ => Nat.le_refl _⟩
        | succ j =>
          rw [hall pat' (List.mem_of_getElem? hj)] at hq'
          cases hq'
      · cases h
    · rename_i q mq hs
      obtain ⟨n, pt, rfl, hpt, hqt, rfl, hbest⟩ := ih hs
      split at h
      · rename_i hc
        simp only [Bool.and_eq_true, decide_eq_true_eq] at hc
        cases h
        refine ⟨0, pat, rfl, rfl, hc.1, rfl, fun j pat' hj hq' => ⟨?_, fun _ => Nat.zero_le _⟩⟩
        cases j with
        | zero => cases hj; exact Nat.le_refl _
        | succ j => exact Nat.le_trans (hbest j pat' hj hq').1 hc.2
      · rename_i hc
        simp only [Bool.and_eq_true, decide_eq_true_eq, not_and] at hc
        cases h
        refine ⟨n + 1, pt, by omega, hpt, hqt, rfl, fun j pat' hj hq' => ?_⟩
        cases j with
        | zero =>
          cases hj
          have := hc hq'
          exact ⟨by omega, fun he => by omega⟩
        | succ j =>
          have hb := hbest j pat' hj hq'
          exact ⟨hb.1, fun he => by have := hb.2 he; omega⟩

/-- What a successful search says of the buffer: a whole window at the offset, and a pattern of the list. -/
theorem searchFrom_some {mode : Config.Granularity} {thresh w k o p : Nat} {pats : List (List Byte)}
    {buf : List Byte} (h : searchFrom mode thresh w pats k buf = some (o, p)) :
    k ≤ o ∧ w ≤ (buf.drop (o - k)).length ∧ p < pats.length ∧
    ∃ m, choose mode thresh ((buf.drop (o - k)).take w) 0 pats = some (p, m) := by
  induction buf generalizing k with
  | nil => simp [searchFrom] at h
  | cons u us ih =>
    unfold searchFrom at h
    simp only at h
    split at h
    · cases h
    · rename_i hw
      split at h
      · rename_i q m hq
        cases h
        have := choose_index hq
        refine ⟨Nat.le_refl _, ?_, ?_, m, ?_⟩
        · simp at hw ⊢; omega
        · omega
        · simpa using hq
      · have hh := ih h
        have e : o - k = (o - (k + 1)) + 1 := by omega
        rw [e, List.drop_succ_cons]
        exact ⟨by omega, hh.2.1, hh.2.2.1, hh.2.2.2⟩

/-- What the channel's search found, if it found something (R144, R146). -/
theorem State.search_some {s : State} {o p : Nat} (h : s.search = some (o, p)) :
    ∃ q, s.personality = some q ∧ q.isSync = true ∧ o + q.width ≤ s.ib.length ∧
      p < (patterns q).length := by
  unfold State.search at h
  split at h
  · cases h
  · rename_i q hq
    have hh := searchFrom_some h
    refine ⟨q, hq, ?_, ?_, hh.2.2.1⟩
    · cases q <;> simp_all [patterns, Personality.isSync]
    · have h1 := hh.2.1
      have h2 : 1 ≤ q.width := by
        cases q <;> simp_all [patterns, Personality.width]
      simp only [Nat.sub_zero, List.length_drop] at h1
      omega

/-! ## The D-STAR choice -/

/-- The three outcomes of `dstar_choose()` (R191). -/
theorem State.dstarChoose_cases (s : State) :
    (41 ≤ s.ib.length ∧ s.dstarChoose = some (s.expect .dstarHeader 41)) ∨
    (15 ≤ s.ib.length ∧ s.ib.length < 41 ∧ s.dstarChoose = some (s.expect .dstarVoice 15)) ∨
    (s.ib.length < 15 ∧ s.dstarChoose = none) := by
  unfold State.dstarChoose
  split
  · exact .inl ⟨‹_›, rfl⟩
  · split
    · exact .inr (.inl ⟨‹_›, by omega, rfl⟩)
    · exact .inr (.inr ⟨by omega, rfl⟩)

/-! ## Codewords -/

/-- The outcomes of `bch_correct` (R233). -/
theorem bchCorrect_cases (cw : BitVec 32) :
    (syn cw = 0 ∧ bchCorrect cw = some cw) ∨
    (syn cw ≠ 0 ∧ ∃ p, p ∈ bchCandidates ∧ syn (flipBit cw p) = 0 ∧ bchCorrect cw = some (flipBit cw p)) ∨
    (syn cw ≠ 0 ∧ (∀ p ∈ bchCandidates, syn (flipBit cw p) ≠ 0) ∧ bchCorrect cw = none) := by
  unfold bchCorrect
  by_cases h : syn cw = 0
  · simp [h]
  · right
    simp only [h, if_false, ne_eq, not_false_eq_true, true_and]
    cases hf : bchCandidates.find? (fun p => syn (flipBit cw p) == 0) with
    | none =>
      right
      rw [List.find?_eq_none] at hf
      exact ⟨fun p hp => by simpa using hf p hp, rfl⟩
    | some p =>
      left
      have h1 := List.mem_of_find?_eq_some hf
      have h2 := List.find?_some hf
      exact ⟨p, h1, by simpa using h2, rfl⟩

end Sys2Proof.Machine
end

