-- ==== Sys2Proof/Laws/Run.lean ====
section
/-! SUPPORT. The RUN loop of the sync personalities: what one pass can do, that the fuel of `deframeRun` never runs
out (R168), and the induction over passes. -/

namespace Sys2Proof.Machine

/-! ## What a pass does -/

/-- Where a pass leaves the state, whether it goes round again or returns. -/
def Pass.state : Pass → State
  | .again s => s
  | .stop s => s

/-- The cases of one pass (R160): a sync is found, the D-STAR choice is made, a frame part is complete, or the
pass returns. -/
theorem deframePass_again {s t : State} (h : deframePass s = .again t) :
    (s.dstate = .syncSearch ∧ ∃ o p, s.search = some (o, p) ∧ t = (s.dropUnits o).onSync p) ∨
    (s.dstate = .dstarSynced ∧ s.dstarChoose = some t) ∨
    (s.dstate.collecting = true ∧ s.collect.fb.length = s.exp ∧ t = s.collect.complete) := by
  cases hd : s.dstate <;> simp only [deframePass, hd] at h
  case syncSearch =>
    left
    unfold searchPass at h
    split at h
    · cases h
    · rename_i o p hs
      cases h
      exact ⟨rfl, o, p, hs, rfl⟩
  case dstarSynced =>
    right; left
    unfold choosePass at h
    split at h
    · cases h
    · rename_i u hu
      cases h
      exact ⟨rfl, hu⟩
  case idle => cases h
  case dsssStream => cases h
  all_goals
    right; right
    unfold collectPass at h
    split at h
    · cases h
      exact ⟨rfl, by assumption, rfl⟩
    · cases h

/-- When a pass returns (R160): nothing found, too few bytes for the D-STAR choice, or a part not complete. -/
theorem deframePass_stop {s t : State} (h : deframePass s = .stop t) :
    (s.dstate = .syncSearch ∧ s.search = none ∧ t = s) ∨
    (s.dstate = .dstarSynced ∧ s.ib.length < 15 ∧ t = s) ∨
    (s.dstate.collecting = true ∧ s.collect.fb.length ≠ s.exp ∧ t = s.collect) ∨
    ((s.dstate = .idle ∨ s.dstate = .dsssStream) ∧ t = s) := by
  cases hd : s.dstate <;> simp only [deframePass, hd] at h
  case syncSearch =>
    left
    unfold searchPass at h
    split at h
    · rename_i hs
      cases h
      exact ⟨rfl, hs, rfl⟩
    · cases h
  case dstarSynced =>
    right; left
    unfold choosePass at h
    rcases s.dstarChoose_cases with hc | hc | hc
    · rw [hc.2] at h; cases h
    · rw [hc.2.2] at h; cases h
    · rw [hc.2] at h; cases h
      exact ⟨rfl, hc.1, rfl⟩
  case idle =>
    cases h
    exact .inr (.inr (.inr ⟨.inl rfl, rfl⟩))
  case dsssStream =>
    cases h
    exact .inr (.inr (.inr ⟨.inr rfl, rfl⟩))
  all_goals
    right; right; left
    unfold collectPass at h
    split at h
    · cases h
    · cases h
      exact ⟨rfl, by assumption, rfl⟩

/-! ## What RUN never touches -/

/-- What the deframers leave alone: everything but IB, FB, EXP, DSTATE, the holding registers, SDACC, OUT and
its count, and the draws. -/
structure State.DeframeFrame (s t : State) : Prop where
  lc : t.lc = s.lc
  cfg : t.cfg = s.cfg
  code : t.code = s.code
  sticky : t.sticky = s.sticky
  errcode : t.errcode = s.errcode
  sb : t.sb = s.sb
  rdata : t.rdata = s.rdata
  port : t.port = s.port
  channel : t.channel = s.channel
  params : t.params = s.params

theorem State.DeframeFrame.refl (s : State) : s.DeframeFrame s := ⟨rfl, rfl, rfl, rfl, rfl, rfl, rfl, rfl, rfl, rfl⟩

theorem State.DeframeFrame.trans {s t u : State} (h : s.DeframeFrame t) (g : t.DeframeFrame u) :
    s.DeframeFrame u :=
  ⟨g.lc.trans h.lc, g.cfg.trans h.cfg, g.code.trans h.code, g.sticky.trans h.sticky,
   g.errcode.trans h.errcode, g.sb.trans h.sb, g.rdata.trans h.rdata, g.port.trans h.port,
   g.channel.trans h.channel, g.params.trans h.params⟩

theorem State.onSync_frame (p : Nat) (s : State) : s.DeframeFrame (s.onSync p) := by
  unfold State.onSync
  split
  · unfold onSyncM17; split <;> constructor <;> rfl
  all_goals constructor <;> rfl

theorem State.complete_frame (s : State) : s.DeframeFrame s.complete := by
  unfold State.complete
  split
  · unfold completeM17Lsf; split <;> constructor <;> rfl
  · unfold completeM17Pkt; split <;> constructor <;> rfl
  case _ => constructor <;> rfl
  case _ => constructor <;> rfl
  case _ => constructor <;> rfl
  case _ => constructor <;> rfl
  case _ => constructor <;> rfl
  case _ => constructor <;> rfl
  case _ => constructor <;> rfl
  · unfold completePocsagBatch; rw [State.emitAll_eq]; constructor <;> rfl
  all_goals exact .refl s

/-- A pass touches nothing outside the deframing state. -/
theorem deframePass_frame (s : State) : s.DeframeFrame (deframePass s).state := by
  cases h : deframePass s with
  | again t =>
    rcases deframePass_again h with ⟨-, o, p, -, rfl⟩ | ⟨-, hc⟩ | ⟨-, -, rfl⟩
    · exact State.DeframeFrame.trans (t := s.dropUnits o) (by constructor <;> rfl) (State.onSync_frame _ _)
    · rcases s.dstarChoose_cases with hh | hh | hh
      · rw [hh.2] at hc; cases hc; constructor <;> rfl
      · rw [hh.2.2] at hc; cases hc; constructor <;> rfl
      · rw [hh.2] at hc; cases hc
    · exact State.DeframeFrame.trans (t := s.collect) (by constructor <;> rfl) (State.complete_frame _)
  | stop t =>
    rcases deframePass_stop h with ⟨-, -, rfl⟩ | ⟨-, -, rfl⟩ | ⟨-, -, rfl⟩ | ⟨-, rfl⟩
    · exact .refl _
    · exact .refl _
    · constructor <;> rfl
    · exact .refl _

/-! ## The state after a part is complete -/

/-- After `end_frame()` in a completion: SYNC_SEARCH, FB empty, IB as it was. -/
def State.Ended (s t : State) : Prop := t.dstate = .syncSearch ∧ t.fb = [] ∧ t.exp = 0 ∧ t.ib = s.ib

/-- A completed part ends the frame, or hands over to the next part of the same frame with FB empty and EXP
positive (R162, R163). -/
theorem State.complete_cases (s : State) (h : s.dstate.collecting = true) :
    s.Ended s.complete ∨
    (s.complete.dstate.collecting = true ∧ s.complete.fb = [] ∧ 1 ≤ s.complete.exp ∧
      s.complete.ib = s.ib) := by
  cases hd : s.dstate <;> rw [hd] at h <;> simp only [DState.collecting] at h <;>
    simp only [State.complete, hd]
  case m17Lsf => left; unfold completeM17Lsf; split <;> exact ⟨rfl, rfl, rfl, rfl⟩
  case m17Pkt => left; unfold completeM17Pkt; split <;> exact ⟨rfl, rfl, rfl, rfl⟩
  case p25Nid => right; exact ⟨rfl, rfl, by simp [completeP25Nid], rfl⟩
  case p25Ldu1 => right; exact ⟨rfl, rfl, by simp [completeP25Ldu1], rfl⟩
  case ysfFich => right; exact ⟨rfl, rfl, by simp [completeYsfFich], rfl⟩
  case pocsagBatch =>
    left
    unfold completePocsagBatch
    rw [State.emitAll_eq]
    exact ⟨rfl, rfl, rfl, rfl⟩
  all_goals first | exact absurd h (by decide) | exact .inl ⟨rfl, rfl, rfl, rfl⟩

/-- `on_sync` starts a part, or D-STAR's choice, and takes its W >= 2 sync units from IB (R146). -/
theorem State.onSync_cases {s : State} {q : Personality} (p : Nat) (hq : s.personality = some q)
    (hs : q.isSync = true) :
    ((s.onSync p).dstate.collecting = true ∨ (s.onSync p).dstate = .dstarSynced) ∧
    (s.onSync p).ib = s.ib.drop q.width ∧ 2 ≤ q.width := by
  cases q <;> simp_all [Personality.isSync, State.onSync, Personality.width]
  case m17 => unfold onSyncM17; split <;> simp [DState.collecting]
  case dstar => simp [onSyncDstar]
  case p25 => simp [onSyncP25, DState.collecting]
  case ysf => simp [onSyncYsf, DState.collecting]
  case pocsag => simp [onSyncPocsag, DState.collecting]

/-! ## The fuel (R168) -/

/-- How many passes are left at most, from each state. -/
def passesLeft (s : State) : Nat :=
  match s.dstate with
  | .syncSearch => 3 * s.ib.length + 1
  | .dstarSynced => 3 * s.ib.length + 3
  | .idle | .dsssStream => 1
  | _ => if s.fb.length < s.exp then 3 * s.ib.length + 1 else 3 * s.ib.length + 2

theorem passesLeft_collecting {s : State} (h : s.dstate.collecting = true) :
    passesLeft s = if s.fb.length < s.exp then 3 * s.ib.length + 1 else 3 * s.ib.length + 2 := by
  cases hd : s.dstate <;> simp_all [DState.collecting, passesLeft]

theorem passesLeft_pos (s : State) : 1 ≤ passesLeft s := by
  unfold passesLeft
  split <;> first | omega | (split <;> omega)

theorem passesLeft_le (s : State) : passesLeft s ≤ 3 * s.ib.length + 3 := by
  unfold passesLeft
  split <;> first | omega | (split <;> omega)

theorem passesLeft_collecting_le {s : State} (h : s.dstate.collecting = true) :
    passesLeft s ≤ 3 * s.ib.length + 2 := by
  rw [passesLeft_collecting h]; split <;> omega

/-- Every pass that goes round again uses up one of the passes left. -/
theorem passesLeft_again {s t : State} (h : deframePass s = .again t) : passesLeft t + 1 ≤ passesLeft s := by
  rcases deframePass_again h with ⟨hd, o, p, hs, rfl⟩ | ⟨hd, hc⟩ | ⟨hd, hfull, rfl⟩
  · obtain ⟨q, hq, hsync, hlen, -⟩ := State.search_some hs
    have hq' : (s.dropUnits o).personality = some q := hq
    obtain ⟨hst, hib, hw⟩ := State.onSync_cases p hq' hsync
    have hl : ((s.dropUnits o).onSync p).ib.length + 2 ≤ s.ib.length := by
      rw [hib]; simp; omega
    have h0 : passesLeft s = 3 * s.ib.length + 1 := by simp [passesLeft, hd]
    have h1 := passesLeft_le ((s.dropUnits o).onSync p)
    omega
  · have h0 : passesLeft s = 3 * s.ib.length + 3 := by simp [passesLeft, hd]
    have h1 : t.dstate.collecting = true ∧ t.ib = s.ib := by
      rcases s.dstarChoose_cases with hh | hh | hh
      · rw [hh.2] at hc; cases hc; exact ⟨rfl, rfl⟩
      · rw [hh.2.2] at hc; cases hc; exact ⟨rfl, rfl⟩
      · rw [hh.2] at hc; cases hc
    have h2 := passesLeft_collecting_le h1.1
    rw [h1.2] at h2
    omega
  · have hcol : s.collect.dstate.collecting = true := hd
    have hnext : passesLeft s.collect.complete ≤ 3 * s.collect.ib.length + 1 := by
      rcases State.complete_cases s.collect hcol with he | ⟨hc, hfb, hexp, hib⟩
      · have : passesLeft s.collect.complete = 3 * s.collect.complete.ib.length + 1 := by
          simp [passesLeft, he.1]
        rw [this, he.2.2.2]
      · rw [passesLeft_collecting hc, hfb, hib]
        simp only [List.length_nil]
        rw [if_pos (by omega)]
    rw [passesLeft_collecting hd]
    simp only [State.collect_fb, State.collect_ib, collectUnits_eq, List.length_append,
      List.length_take, List.length_drop] at hfull hnext
    split <;> omega

/-- With enough fuel the loop does not depend on how much. -/
theorem deframeLoop_fuel {j k : Nat} (s : State) (hj : passesLeft s ≤ j) (hk : passesLeft s ≤ k) :
    deframeLoop j s = deframeLoop k s := by
  induction j generalizing k s with
  | zero => have := passesLeft_pos s; omega
  | succ j ih =>
    obtain ⟨k, rfl⟩ : ∃ k', k = k' + 1 := ⟨k - 1, by have := passesLeft_pos s; omega⟩
    unfold deframeLoop
    split
    · rename_i t ht
      have := passesLeft_again ht
      exact ih t (by omega) (by omega)
    · rfl

/-- `deframe_run()` is one pass, and then `deframe_run()` again unless the pass returned (R160). -/
theorem deframeRun_eq (s : State) :
    deframeRun s = match deframePass s with
      | .again t => deframeRun t
      | .stop t => t := by
  have h3 : deframeRun s = deframeLoop (3 * s.ib.length + 2 + 1) s := rfl
  rw [h3, deframeLoop]
  cases hp : deframePass s with
  | again t =>
    have h1 := passesLeft_again hp
    have h2 := passesLeft_le s
    exact deframeLoop_fuel t (by omega) (passesLeft_le t)
  | stop t => rfl

/-- A property that every pass keeps holds after `deframe_run()`. -/
theorem deframeRun_keeps (P : State → Prop) (hpass : ∀ s, P s → P (deframePass s).state) {s : State}
    (h : P s) : P (deframeRun s) := by
  have loop : ∀ k s, P s → P (deframeLoop k s) := by
    intro k
    induction k with
    | zero => intro s h; exact h
    | succ k ih =>
      intro s h
      have hp := hpass s h
      unfold deframeLoop
      split
      · rename_i t ht
        rw [ht] at hp
        exact ih t hp
      · rename_i t ht
        rw [ht] at hp
        exact hp
  exact loop _ s h

/-- `deframe_run()` by the pass that ended it: some state was reached in which a pass returned. -/
theorem deframeRun_ends (s : State) : ∃ t, deframePass t = .stop (deframeRun s) := by
  have loop : ∀ n s, passesLeft s ≤ n → ∃ t, deframePass t = .stop (deframeRun s) := by
    intro n
    induction n with
    | zero => intro s h; have := passesLeft_pos s; omega
    | succ n ih =>
      intro s h
      cases hp : deframePass s with
      | again t =>
        have := passesLeft_again hp
        obtain ⟨u, hu⟩ := ih t (by omega)
        refine ⟨u, ?_⟩
        rw [hu, deframeRun_eq s, hp]
      | stop t =>
        refine ⟨s, ?_⟩
        rw [hp, deframeRun_eq s, hp]
  exact loop _ s (Nat.le_refl _)

end Sys2Proof.Machine
end

