-- ==== Sys2Proof/Laws/Inv.lean ====
section
/-! SUPPORT. The invariant of Safety.lean as a check that can be run on a state, what READY means for the commands,
and what RUN does not touch. -/

namespace Sys2Proof.Machine

/-! ## A check for concrete states -/

/-- CONSTRUCT would accept the configuration for personality `p`. -/
def configAccepted (c : Cfg) (code : List Byte) (p : Personality) : Bool :=
  match checkConfig c code with
  | .ok q => q == p
  | .error _ => false

theorem configAccepted_iff (c : Cfg) (code : List Byte) (p : Personality) :
    configAccepted c code p = true ↔ checkConfig c code = .ok p := by
  unfold configAccepted
  split <;> simp_all

/-- The clauses of `State.ReadyFor`, as one check. -/
def State.readyCheck (s : State) (p : Personality) : Bool :=
  configAccepted s.cfg s.code p && s.dstate.fits p && decide (s.exp = expectedLength s.cfg s.dstate) &&
  decide (s.dstate.collecting = true → s.fb.length < s.exp) &&
  decide (s.dstate.collecting = false → s.fb = []) &&
  decide (s.ib.length ≤ s.cfg.bufcap.toNat) && decide (s.sb.length ≤ s.cfg.bufcap.toNat) &&
  decide (p ≠ .dsssDec → s.sb = []) && decide (p = .dsssDec → s.ib = []) &&
  decide (p.isBit = true → unitsAreBits s.ib = true ∧ unitsAreBits s.fb = true) &&
  decide (s.nidreg.length = nidLength s.dstate) && decide (s.ldu1reg.length = ldu1Length s.dstate) &&
  decide (s.fichreg.length = fichLength s.dstate) && decide (s.sdacc.length ≤ Config.dstarSdCap) &&
  decide (s.sdacc.length % 24 = 0) && decide (p ≠ .dstar → s.sdacc = [])

theorem State.readyFor_of_check {s : State} {p : Personality} (h : s.readyCheck p = true) : s.ReadyFor p := by
  simp only [State.readyCheck, Bool.and_eq_true, decide_eq_true_eq, configAccepted_iff] at h
  obtain ⟨⟨⟨⟨⟨⟨⟨⟨⟨⟨⟨⟨⟨⟨⟨a, b⟩, c⟩, d⟩, e⟩, f⟩, g⟩, h⟩, i⟩, j⟩, k⟩, l⟩, m⟩, n⟩, o⟩, p⟩ := h
  exact ⟨a, b, c, d, e, f, g, h, i, j, k, l, m, n, o, p⟩

/-- The invariant of a constructed channel, by the check. -/
theorem State.inv_of_readyCheck {s : State} (p : Personality)
    (h : (decide (s.code.length ≤ Config.codeMax) && decide (s.lc = .ready) && decide (s.errcode = .none) &&
      s.readyCheck p) = true) : s.Inv := by
  simp only [Bool.and_eq_true, decide_eq_true_eq] at h
  obtain ⟨⟨⟨hc, hl⟩, he⟩, hr⟩ := h
  refine ⟨hc, ?_, fun hn => absurd hl hn, fun _ => ⟨p, State.readyFor_of_check hr⟩⟩
  rw [hl, he]; rfl

/-! ## READY -/

/-- In READY no configuration command is allowed and RUN and RESET are (R271). -/
theorem State.ready_legality {s : State} (h : s.lc = .ready) : s.configurable = false ∧ s.isReady = true := by
  have := (State.isReady_iff s).mpr h
  exact ⟨by simpa [State.isReady] using this, this⟩

/-- Outside READY the configuration commands are allowed and RUN and RESET are not (R271). -/
theorem State.notReady_legality {s : State} (h : s.lc ≠ .ready) : s.configurable = true ∧ s.isReady = false := by
  have := (State.configurable_iff s).mpr h
  exact ⟨this, by simp [State.isReady, this]⟩

/-- A channel that fits a personality is of that personality. -/
theorem State.ReadyFor.personality_eq {s : State} {p : Personality} (h : s.ReadyFor p) :
    s.personality = some p := (checkConfig_ok h.config_ok).1

/-! ## RUN -/

/-- `deframe_run()` leaves everything outside the deframing state alone. -/
theorem deframeRun_frame (s : State) : s.DeframeFrame (deframeRun s) :=
  deframeRun_keeps (fun t => s.DeframeFrame t) (fun t h => h.trans (deframePass_frame t)) (.refl s)

/-- Collecting a second time moves nothing (R161). -/
theorem State.collect_collect (s : State) : s.collect.collect = s.collect := by
  unfold State.collect
  simp only [collectUnits_eq]
  congr 1 <;> simp <;> omega

/-- The state a pass returns in returns again at once. -/
theorem deframePass_stop_again {s t : State} (h : deframePass s = .stop t) : deframePass t = .stop t := by
  rcases deframePass_stop h with ⟨-, -, rfl⟩ | ⟨-, -, rfl⟩ | ⟨hc, hn, rfl⟩ | ⟨-, rfl⟩
  · exact h
  · exact h
  · have hp : deframePass s.collect = collectPass s.collect := by
      cases hd : s.dstate <;> simp_all [deframePass, DState.collecting]
    rw [hp]
    unfold collectPass
    rw [State.collect_collect, if_neg (by simpa using hn)]
  · exact h

end Sys2Proof.Machine
end

