-- ==== Sys2Proof/Laws/Exec.lean ====
section
/-! SUPPORT. What each meaning can answer, said once: every lemma lists all its outcomes with the checks that lead to
them (R277). And what the procedures of RUN answer. -/

namespace Sys2Proof.Machine

/-! ## PROTO by number -/

/-- PROTO holds `n` exactly when its number is `n`. -/
theorem proto_eq_iff (r : Reg) (n : Nat) (h : n < 2 ^ 24) : r = BitVec.ofNat 24 n ↔ r.toNat = n := by
  rw [← BitVec.toNat_inj, BitVec.toNat_ofNat, Nat.mod_eq_of_lt h]

/-- DSSS_DEC is PROTO 7 (R22). -/
theorem State.isDsssDec_iff_proto (s : State) : s.isDsssDec = true ↔ s.cfg.proto = 7 := by
  rw [State.isDsssDec_iff, State.personality, show (7 : Reg) = BitVec.ofNat 24 7 from rfl,
    proto_eq_iff _ _ (by decide)]
  unfold personalityOf
  split <;> simp_all

/-- The bit personalities are PROTO 5 and 6 (R22, R273). -/
theorem State.badUnit_iff_proto (s : State) (u : Byte) :
    s.badUnit u = true ↔ (s.cfg.proto = 5 ∨ s.cfg.proto = 6) ∧ 1 < u.toNat := by
  rw [State.badUnit_iff, State.personality, show (5 : Reg) = BitVec.ofNat 24 5 from rfl,
    show (6 : Reg) = BitVec.ofNat 24 6 from rfl, proto_eq_iff _ _ (by decide), proto_eq_iff _ _ (by decide)]
  unfold personalityOf
  split <;> simp_all [Personality.isBit]

/-! ## Configuration commands -/

theorem execWrcfg_cases (r : BitVec 4) (v : BitVec 24) (s : State) :
    (5 < r.toNat ∧ execWrcfg r v s = .next (s.raise .illegalCmd)) ∨
    (r.toNat ≤ 5 ∧ s.lc = .ready ∧ execWrcfg r v s = .next (s.raise .seqErr)) ∨
    (r.toNat ≤ 5 ∧ s.lc ≠ .ready ∧ execWrcfg r v s = .next (s.writeCfg r.toNat v)) := by
  unfold execWrcfg
  by_cases h : 5 < r.toNat
  · exact .inl ⟨h, by rw [if_pos h]; rfl⟩
  · rw [if_neg h]
    by_cases hr : s.lc = .ready
    · exact .inr (.inl ⟨by omega, hr, by rw [(State.ready_legality hr).1]; rfl⟩)
    · exact .inr (.inr ⟨by omega, hr, by rw [(State.notReady_legality hr).1]; rfl⟩)

theorem execWrcode_cases (c : Byte) (s : State) :
    (s.lc = .ready ∧ execWrcode c s = .next (s.raise .seqErr)) ∨
    (s.lc ≠ .ready ∧ s.code.length = 256 ∧ execWrcode c s = .next (s.raise .codeOvf)) ∨
    (s.lc ≠ .ready ∧ s.code.length ≠ 256 ∧ execWrcode c s = .next (s.appendChip c)) := by
  unfold execWrcode
  by_cases hr : s.lc = .ready
  · exact .inl ⟨hr, by rw [(State.ready_legality hr).1]; rfl⟩
  · rw [(State.notReady_legality hr).1]
    by_cases h : s.code.length = 256
    · exact .inr (.inl ⟨hr, h, if_pos h⟩)
    · exact .inr (.inr ⟨hr, h, if_neg h⟩)

theorem execConstruct_cases (s : State) :
    (s.lc = .ready ∧ execConstruct s = .next (s.raise .seqErr)) ∨
    (s.lc ≠ .ready ∧ ∃ p, checkConfig s.cfg s.code = .ok p ∧ execConstruct s = .next (s.construct p)) ∨
    (s.lc ≠ .ready ∧ ∃ e, checkConfig s.cfg s.code = .error e ∧
      execConstruct s = .next (s.constructFailed e)) := by
  unfold execConstruct
  by_cases hr : s.lc = .ready
  · exact .inl ⟨hr, by rw [(State.ready_legality hr).1]; rfl⟩
  · rw [(State.notReady_legality hr).1]
    cases h : checkConfig s.cfg s.code with
    | ok p => exact .inr (.inl ⟨hr, p, rfl, rfl⟩)
    | error e => exact .inr (.inr ⟨hr, e, rfl, rfl⟩)

/-! ## Input commands -/

theorem execPush_cases (u : Byte) (s : State) :
    ((s.lc ≠ .ready ∨ s.cfg.proto = 7) ∧ execPush u s = .next (s.raise .seqErr)) ∨
    (s.lc = .ready ∧ s.cfg.proto ≠ 7 ∧ s.badUnit u = true ∧ execPush u s = .next (s.raise .inputErr)) ∨
    (s.lc = .ready ∧ s.cfg.proto ≠ 7 ∧ s.badUnit u = false ∧ execPush u s = .next (s.pushUnit u)) := by
  unfold execPush
  by_cases hr : s.lc = .ready
  · by_cases h7 : s.cfg.proto = 7
    · left
      refine ⟨.inr h7, ?_⟩
      have : s.pushAllowed = false := by
        rw [State.pushAllowed, (State.isDsssDec_iff_proto s).mpr h7]; simp
      rw [this]; rfl
    · right
      have hd : s.isDsssDec = false := by
        cases h : s.isDsssDec with
        | true => exact absurd ((State.isDsssDec_iff_proto s).mp h) h7
        | false => rfl
      have : s.pushAllowed = true := by rw [State.pushAllowed, (State.ready_legality hr).2, hd]; rfl
      rw [this]
      cases hb : s.badUnit u with
      | true => exact .inl ⟨hr, h7, rfl, rfl⟩
      | false => exact .inr ⟨hr, h7, rfl, rfl⟩
  · left
    refine ⟨.inl hr, ?_⟩
    rw [State.pushAllowed, (State.notReady_legality hr).2]; rfl

theorem execPushs_cases (i q : BitVec 12) (s : State) :
    ((s.lc ≠ .ready ∨ s.cfg.proto ≠ 7) ∧ execPushs i q s = .next (s.raise .seqErr)) ∨
    (s.lc = .ready ∧ s.cfg.proto = 7 ∧ execPushs i q s = .next (s.pushSample ⟨i, q⟩)) := by
  unfold execPushs
  by_cases hr : s.lc = .ready
  · by_cases h7 : s.cfg.proto = 7
    · right
      refine ⟨hr, h7, ?_⟩
      rw [State.pushsAllowed, (State.ready_legality hr).2, (State.isDsssDec_iff_proto s).mpr h7]; rfl
    · left
      refine ⟨.inr h7, ?_⟩
      have hd : s.isDsssDec = false := by
        cases h : s.isDsssDec with
        | true => exact absurd ((State.isDsssDec_iff_proto s).mp h) h7
        | false => rfl
      rw [State.pushsAllowed, hd]; simp
  · left
    refine ⟨.inl hr, ?_⟩
    rw [State.pushsAllowed, (State.notReady_legality hr).2]; rfl

/-! ## RUN, RESET, RDREG -/

theorem execRun_cases (s : State) :
    (s.lc = .ready ∧ execRun s = .next s.runProcedure) ∨ (s.lc ≠ .ready ∧ execRun s = .next (s.raise .seqErr)) := by
  unfold execRun
  by_cases hr : s.lc = .ready
  · exact .inl ⟨hr, by rw [(State.ready_legality hr).2]; rfl⟩
  · exact .inr ⟨hr, by rw [(State.notReady_legality hr).2]; rfl⟩

theorem execReset_cases (s : State) :
    (s.lc = .ready ∧ execReset s = .next (s.restartData s.resetTarget)) ∨
    (s.lc ≠ .ready ∧ execReset s = .next (s.raise .seqErr)) := by
  unfold execReset
  by_cases hr : s.lc = .ready
  · exact .inl ⟨hr, by rw [(State.ready_legality hr).2]; rfl⟩
  · exact .inr ⟨hr, by rw [(State.notReady_legality hr).2]; rfl⟩

theorem execRdreg_cases (r : BitVec 4) (s : State) :
    (12 < r.toNat ∧ execRdreg r s = .next (s.raise .illegalCmd)) ∨
    (r.toNat ≤ 12 ∧ execRdreg r s = .next (s.setRdata ((s.readReg r.toNat).setWidth 32))) := by
  unfold execRdreg
  by_cases h : 12 < r.toNat
  · exact .inl ⟨h, by rw [if_pos h]; rfl⟩
  · exact .inr ⟨by omega, by rw [if_neg h]⟩

/-- The procedure of RUN by personality (R118). -/
theorem State.runProcedure_sync {s : State} {p : Personality} (hp : s.personality = some p)
    (hs : p.isSync = true) : s.runProcedure = deframeRun s := by
  cases p <;> simp_all [State.runProcedure, Personality.isSync]

theorem State.runProcedure_dsssEnc {s : State} (hp : s.personality = some .dsssEnc) :
    s.runProcedure = spreadRun s := by simp [State.runProcedure, hp]

theorem State.runProcedure_dsssDec {s : State} (hp : s.personality = some .dsssDec) :
    s.runProcedure = correlateRun s := by simp [State.runProcedure, hp]

/-- `spread_run()` as one update (R250). -/
theorem spreadRun_eq (s : State) :
    spreadRun s = { s with
      ib := [], out := s.out ++ s.ib.map (fun b => Record.chips (spreadBit s.code b))
      outCount := s.outCount + BitVec.ofNat 24 s.ib.length } := by
  unfold spreadRun
  rw [State.emitAll_eq, List.length_map]
  rfl

/-- The records of `n` symbol periods are `n`. -/
theorem symbolRecords_length (code : List Byte) (S P n : Nat) (sb : List Sample) :
    (symbolRecords code S P n sb).length = n := by
  induction n generalizing sb with
  | zero => rfl
  | succ n ih => simp [symbolRecords, ih]

/-- `correlate_run()` as one update (R255). -/
theorem correlateRun_eq (s : State) :
    correlateRun s = { s with
      sb := s.sb.drop (s.sb.length / s.symbolPeriod * s.symbolPeriod)
      out := s.out ++ symbolRecords s.code s.cfg.dsssSps.toNat s.symbolPeriod
        (s.sb.length / s.symbolPeriod) s.sb
      outCount := s.outCount + BitVec.ofNat 24 (s.sb.length / s.symbolPeriod) } := by
  unfold correlateRun
  simp only [State.emitAll_eq, symbolRecords_length]
  rfl

/-! ## Slow data -/

/-- Three slow-data bytes add 24 bits, to nothing where the cap would be exceeded (R196, R197). -/
theorem sdAppend_length (sd : List Byte) (acc : List Bool) (h : sd.length = 3) :
    (sdAppend sd acc).length = (if 168 < acc.length + 24 then 0 else acc.length) + 24 := by
  have h24 : (sd.flatMap byteBits).length = 24 := by
    match sd, h with
    | [a, b, c], _ => simp [byteBits]
  have hk : Config.dstarSdCap = 168 := rfl
  unfold sdAppend
  rw [hk, List.length_append, h24]
  split <;> simp

end Sys2Proof.Machine
end

