-- ==== Sys2Proof/Laws/PerInstr.lean ====
section
/-! SUPPORT. The families of statements made for each command. -/

namespace Sys2Proof.Laws

/-- The mask of the command's row in spec/opcode_table.json. -/
def tableMask : Instr → Word
  | .nop => 0xFFFFFFFF
  | .wrcfg _ _ => 0xF0000000
  | .wrcode _ => 0xFFFFFF00
  | .construct => 0xFFFFFFFF
  | .push _ => 0xFFFFFF00
  | .pushs _ _ => 0xFF000000
  | .run => 0xFFFFFFFF
  | .reset => 0xFFFFFFFF
  | .clear => 0xFFFFFFFF
  | .rdreg _ => 0xF0FFFFFF

/-- The match value of the command's row in spec/opcode_table.json. -/
def tableMatch : Instr → Word
  | .nop => 0x00000000
  | .wrcfg _ _ => 0x10000000
  | .wrcode _ => 0x20000000
  | .construct => 0x30000000
  | .push _ => 0x40000000
  | .pushs _ _ => 0x50000000
  | .run => 0x60000000
  | .reset => 0x70000000
  | .clear => 0x80000000
  | .rdreg _ => 0x90000000

/-- The encoded word matches the command's row of the opcode table (R82). -/
def TableRow.Statement (i : Instr) : Prop := encode i &&& tableMask i = tableMatch i

theorem TableRow.nop : TableRow.Statement .nop := by
  simp only [Statement]; decide

theorem TableRow.wrcfg (r : BitVec 4) (v : BitVec 24) : TableRow.Statement (.wrcfg r v) := by
  apply BitVec.eq_of_getLsbD_eq
  intro j hj
  simp only [encode, formatF0, tableMask, tableMatch, BitVec.getLsbD_and, BitVec.getLsbD_append]
  interval_cases j <;> simp

theorem TableRow.wrcode (c : Byte) : TableRow.Statement (.wrcode c) := by
  apply BitVec.eq_of_getLsbD_eq
  intro j hj
  simp only [encode, formatF0, tableMask, tableMatch, BitVec.getLsbD_and, BitVec.getLsbD_append]
  interval_cases j <;> simp

theorem TableRow.construct : TableRow.Statement .construct := by
  simp only [Statement]; decide

theorem TableRow.push (u : Byte) : TableRow.Statement (.push u) := by
  apply BitVec.eq_of_getLsbD_eq
  intro j hj
  simp only [encode, formatF0, tableMask, tableMatch, BitVec.getLsbD_and, BitVec.getLsbD_append]
  interval_cases j <;> simp

theorem TableRow.pushs (i q : BitVec 12) : TableRow.Statement (.pushs i q) := by
  apply BitVec.eq_of_getLsbD_eq
  intro j hj
  simp only [encode, formatF0, tableMask, tableMatch, BitVec.getLsbD_and, BitVec.getLsbD_append]
  interval_cases j <;> simp

theorem TableRow.run : TableRow.Statement .run := by
  simp only [Statement]; decide

theorem TableRow.reset : TableRow.Statement .reset := by
  simp only [Statement]; decide

theorem TableRow.clear : TableRow.Statement .clear := by
  simp only [Statement]; decide

theorem TableRow.rdreg (r : BitVec 4) : TableRow.Statement (.rdreg r) := by
  apply BitVec.eq_of_getLsbD_eq
  intro j hj
  simp only [encode, formatF0, tableMask, tableMatch, BitVec.getLsbD_and, BitVec.getLsbD_append]
  interval_cases j <;> simp

end Sys2Proof.Laws
end

