-- ==== Sys2Proof/Tests/Slice0.lean ====
section
/-! SUPPORT. Small tests of the model, their expected values taken from spec/95_test_vectors.md or worked out from
the rule they name; and for each statement with hypotheses a concrete case that meets them. -/

namespace Sys2Proof.Tests

open Sys2Proof.Machine Sys2Proof.Claims

/-! ## Ill-formed commands (R85) -/

theorem test_wellFormed_refuses_wrcfg_of_codeLen : (Instr.wrcfg 6 0).wellFormed = false := by decide
theorem test_wellFormed_refuses_rdreg_of_13 : (Instr.rdreg 13).wellFormed = false := by decide
theorem test_wellFormed_takes_the_last_indices :
    (Instr.wrcfg 5 0xFFFFFF).WellFormed ∧ (Instr.rdreg 12).WellFormed := by decide

/-! ## Decoding: words written out as OP, R, IMM (R80, R82; vectors of 95 section 2.1) -/

theorem test_decode_nop : decode 0b0000_0000_000000000000000000000000 = .ok .nop := by rfl
theorem test_decode_wrcfg :
    decode 0b0001_0101_111111111111111111111111 = .ok (.wrcfg 5 0xFFFFFF) := by rfl
theorem test_decode_wrcode : decode 0b0010_0000_000000000000000011111111 = .ok (.wrcode 255) := by rfl
theorem test_decode_construct : decode 0b0011_0000_000000000000000000000000 = .ok .construct := by rfl
theorem test_decode_push : decode 0b0100_0000_000000000000000011010100 = .ok (.push 0xD4) := by rfl
theorem test_decode_pushs :
    decode 0b0101_0000_111110011100_000000000101 = .ok (.pushs (-100) 5) := by rfl
theorem test_decode_run : decode 0b0110_0000_000000000000000000000000 = .ok .run := by rfl
theorem test_decode_reset : decode 0b0111_0000_000000000000000000000000 = .ok .reset := by rfl
theorem test_decode_clear : decode 0b1000_0000_000000000000000000000000 = .ok .clear := by rfl
theorem test_decode_rdreg : decode 0b1001_1100_000000000000000000000000 = .ok (.rdreg 12) := by rfl
theorem test_decode_refuses_bit_8_of_push :
    decode 0x40000100 = .error (.reservedFieldNonzero 4) := by rfl
theorem test_decode_refuses_reserved_opcode : decode 0xF0000000 = .error (.reservedOpcode 15) := by rfl
theorem test_decodeTableWord : decodeTableWord 32 0x507FF800 = some (.pushs 2047 (-2048)) := by rfl

/-! ## States -/

/-- The next state of an outcome. -/
def nextOf (o : Host.Outcome State Fault Refusal) : Option State :=
  match o with
  | .next t => some t
  | .fault _ => none
  | .refused _ => none

/-- A field of the next state. -/
def after {α : Type} (i : Instr) (s : State) (f : State → α) : Option α := (nextOf (exec i s)).map f

/-- A register of the next state. -/
def regAfter (i : Instr) (s : State) (n : Nat) : Option Nat := after i s (fun t => (t.readReg n).toNat)

/-- Reset configuration with a PROTO. -/
def cfgOf (proto : Reg) : Cfg := { Cfg.reset with proto := proto }

/-- A channel to construct. -/
def unbuilt (c : Cfg) (code : List Byte) : State := { State.reset with cfg := c, code := code }

/-- A constructed channel with units in IB. -/
def built (p : Personality) (c : Cfg) (code ib : List Byte) : State :=
  { (unbuilt c code).construct p with ib := ib }

def m17 (maxlen : Reg) (ib : List Byte) : State := built .m17 { cfgOf 1 with m17Maxlen := maxlen } [] ib
def dstar (ib : List Byte) : State := built .dstar (cfgOf 2) [] ib
def p25 (ib : List Byte) : State := built .p25 (cfgOf 3) [] ib
def ysf (ib : List Byte) : State := built .ysf (cfgOf 4) [] ib
def pocsag (ib : List Byte) : State := built .pocsag { cfgOf 5 with pocsagBaud := 1200 } [] ib
def dsssEnc (code ib : List Byte) : State := built .dsssEnc (cfgOf 6) code ib
def dsssDec (code : List Byte) (sps : Reg) (sb : List Sample) : State :=
  { built .dsssDec { cfgOf 7 with dsssSps := sps } code [] with sb := sb }

/-- The same channel with another threshold. -/
def atThresh (thresh : Reg) (s : State) : State := { s with cfg := { s.cfg with thresh := thresh } }

/-- YSF with a small BUFCAP. -/
def ysfCap (cap : Reg) (ib : List Byte) : State := built .ysf { cfgOf 4 with bufcap := cap } [] ib

/-! ## One step of each command -/

/-- V-CMD19. -/
theorem test_nop_keeps_status : regAfter .nop (ysf [1]) 7 = some 1 := by decide
/-- V-CMD18. -/
theorem test_wrcfg_stores_a_value_out_of_range : regAfter (.wrcfg 1 0xFFFFFF) State.reset 1 = some 0xFFFFFF := by
  decide
/-- V-CMD7. -/
theorem test_wrcfg_in_ready_is_seq_err : regAfter (.wrcfg 1 0) (ysf []) 7 = some 0x09 := by decide
/-- V-CMD14. -/
theorem test_wrcode_overflow :
    regAfter (.wrcode 1) (unbuilt (cfgOf 6) (List.replicate 256 1)) 7 = some 0x20 := by decide +kernel
theorem test_wrcode_appends_last :
    after (.wrcode 0) (unbuilt (cfgOf 6) [1]) (fun t => t.code) = some [1, 0] := by decide
/-- V-CON16. -/
theorem test_construct_at_the_bufcap_bound :
    regAfter .construct (unbuilt { cfgOf 7 with dsssSps := 666 } [1, 0, 1]) 9 = some 0x60 := by decide
/-- V-CON18. -/
theorem test_construct_first_failing_check :
    regAfter .construct (unbuilt { cfgOf 5 with thresh := 0x9000, pocsagBaud := 999 } []) 8 = some 2 := by decide
/-- V-MEM2. -/
theorem test_push_drops_the_oldest :
    after (.push 0) (ysfCap 2 [0xD4, 0x71]) (fun t => t.ib) = some [0x71, 0x00] := by decide
/-- V-CMD11. -/
theorem test_push_of_2_to_pocsag : regAfter (.push 2) (pocsag []) 7 = some 0x11 := by decide
theorem test_pushs_appends_signed :
    after (.pushs (-2048) 2047) (dsssDec [1] 1 []) (fun t => t.sb.map (fun x => (sext12 x.i, sext12 x.q)))
      = some [(-2048, 2047)] := by decide
/-- V-CMD9. -/
theorem test_pushs_to_ysf_is_seq_err : regAfter (.pushs 0 0) (ysf []) 7 = some 0x09 := by decide
/-- V-M3. -/
theorem test_run_emits_a_packet :
    after .run (m17 6 [0x9F, 0xF6, 1, 2, 3, 4, 0xDF]) (fun t => (t.out, t.ib))
      = some ([.frame .m17Packet [0x9F, 0xF6, 1, 2, 3, 4] []], [0xDF]) := by decide +kernel
/-- V-DS5. -/
theorem test_run_correlates :
    after .run (dsssDec [1, 1, 0] 2 [⟨90, 10⟩, ⟨110, -10⟩, ⟨100, 5⟩, ⟨100, 5⟩, ⟨-80, 0⟩, ⟨-120, 0⟩])
      (fun t => t.out) = some [.corr 600 10 6] := by decide +kernel
/-- V-R2. -/
theorem test_reset_keeps_status :
    regAfter .reset { m17 33 [] with dstate := .m17Lsf, fb := List.replicate 20 0, exp := 48, outCount := 3
                                     sticky := ⟨false, true, false, false⟩ } 7 = some 0x09 := by decide
/-- V-R4. -/
theorem test_reset_in_cfgError :
    after .reset { unbuilt (cfgOf 5) [] with lc := .cfgError, errcode := .baudInvalid }
      (fun t => ((t.readReg 7).toNat, t.errcode)) = some (0x0A, .baudInvalid) := by decide
/-- V-CMD16. -/
theorem test_clear_clears_the_sticky_bits :
    regAfter .clear { ysf [] with sticky := ⟨true, true, true, true⟩ } 7 = some 0 := by decide
theorem test_clear_restores_bufcap : regAfter .clear (ysfCap 2 [1]) 2 = some 2000 := by decide
/-- V-CMD2. -/
theorem test_rdreg_bufcap : after (.rdreg 2) State.reset (fun t => t.rdata) = some 0x000007D0 := by decide
theorem test_rdreg_state : after (.rdreg 9) (dsssDec [1] 1 []) (fun t => t.rdata) = some 0x60 := by decide

/-! ## Frames and codes -/

/-- V-SD14, V-SD17: the larger count wins, and at a tie the lower pattern number. -/
theorem test_search_chooses :
    searchBuffer .bit .m17 0x6800 [0x9F, 0x54] = some (0, 0) ∧
    searchBuffer .byte .m17 0x4000 [0xDF, 0xF6] = some (0, 0) := by decide
/-- V-D7, V-D9. -/
theorem test_slow_data :
    sdMessage (sdAppend [0x83, 0x0A, 0x1C] []) = [0x41, 0x42, 0x43] ∧
    sdMessage (sdAppend [0, 0, 0] (sdAppend [0x83, 0x0A, 0x1C] [])) = [0x41, 0x42, 0x43, 0x40] := by decide +kernel
/-- V-D12, V-D13. -/
theorem test_trim :
    trim (List.replicate 8 0x20) = [] ∧ trim [0x20, 0x41, 0x20, 0x42, 0x20] = [0x20, 0x41, 0x20, 0x42] := by decide
/-- V-P1. -/
theorem test_nac : nacOf [0x12, 0x34, 0x56, 0x78, 0x9A, 0xBC, 0xDE, 0xF0] = 0xEF0 := by decide
/-- V-PG2, V-PG3, V-PG5. -/
theorem test_bch :
    syn 0x8BA2634D = 418 ∧ bchCorrect 0x8BA2634D = some 0x89A2634D ∧ bchCorrect 0x00101DA5 = some 0x00001DA5 ∧
    bchCorrect 0x89A2636D = none := by decide +kernel
/-- V-PG13. -/
theorem test_page_address : pageAddress 0 0x7CD215D8 = 0x1F3480 ∧ pageFunction 0x7CD215D8 = 2 := by decide
/-- V-PG1: "HELLO" from M1 and M2. -/
theorem test_page_text :
    pageText (messageBits [some 0x89A2634D, some 0xCCF905DE, some 0x7A89C197])
      = [0x48, 0x45, 0x4C, 0x4C, 0x4F] := by decide +kernel

/-! ## Cases that meet the hypotheses of the statements, in the order of Obligations.lean

A boundary value stands for each clause. `reset` holds nothing; the READY states come from `built`. -/

theorem witness_DecodeOfEncodeIsTheCommand :
    (Instr.wrcfg 5 0xFFFFFF).WellFormed ∧ (Instr.rdreg 12).WellFormed ∧ (Instr.pushs 0x800 0x7FF).WellFormed := by
  decide
theorem witness_DecodedWordIsTheEncoding : decode 0x15FFFFFF = .ok (.wrcfg 5 0xFFFFFF) := by rfl
theorem witness_StepRunsTheDecodedCommand :
    { ysf [] with port := [.command 0x60000000] }.port = .command 0x60000000 :: [] ∧
    decode 0x60000000 = .ok .run ∧ decodeTableWord 32 0x60000000 = some .run ∧
    { ysf [1] with port := [.hardReset] }.port = .hardReset :: [] := ⟨rfl, rfl, rfl, rfl⟩
theorem witness_IdleChannelHoldsItsState : (ysf [1]).port = [] := rfl
theorem witness_IllegalCommandExactly :
    illegalWord 0xA0000000 ∧ illegalWord 0x00000001 ∧ illegalWord 0x20000100 ∧ illegalWord 0x51000000 ∧
    illegalWord 0x97000001 ∧ illegalWord 0x9D000000 ∧ illegalWord 0x16000000 ∧
    ¬ illegalWord 0x15FFFFFF ∧ ¬ illegalWord 0x9C000000 ∧ ¬ illegalWord 0x200000FF := by
  simp [illegalWord]
theorem witness_IllegalCommandExactly_after :
    after .nop { ysf [] with sticky := ⟨true, false, false, false⟩ } (fun t => t.sticky.illegalCmd)
      = some true := by decide
theorem witness_SoftResetRestartsTheData :
    (m17 33 [1]).lc = .ready ∧ 1 ≤ (m17 33 [1]).cfg.proto.toNat ∧ (m17 33 [1]).cfg.proto.toNat ≤ 7 ∧
    (dsssDec [1] 1 []).lc = .ready ∧ (dsssDec [1] 1 []).cfg.proto.toNat ≤ 7 ∧ State.reset.lc ≠ .ready := by decide
theorem witness_WrcfgStoresTheValue :
    5 < (6 : BitVec 4).toNat ∧ (5 : BitVec 4).toNat ≤ 5 ∧ (ysf []).lc = .ready ∧ State.reset.lc ≠ .ready := by
  decide
theorem witness_WrcodeAppendsAChip :
    (ysf []).lc = .ready ∧ (unbuilt (cfgOf 6) (List.replicate 256 1)).lc ≠ .ready ∧
    (unbuilt (cfgOf 6) (List.replicate 256 1)).code.length = 256 ∧
    (unbuilt (cfgOf 6) (List.replicate 255 1)).code.length ≠ 256 := by decide +kernel

/-- A DSSS_DEC configuration at the bound of check 9. -/
def atBound : State := unbuilt { cfgOf 7 with dsssSps := 1000 } [1, 0]

theorem witness_ConstructSucceeds :
    atBound.lc ≠ .ready ∧ (∀ k, checkHolds k atBound) ∧ (ysf []).lc = .ready := by
  refine ⟨by decide, fun k => ?_, by decide⟩
  match k with
  | 0 => trivial
  | 1 | 2 | 3 | 4 | 5 | 6 | 7 | 8 | 9 => simp only [checkHolds]; decide
  | k + 10 => trivial

/-- The case of check 9, one sample beyond the bound. -/
theorem witness_ConstructFailsAtTheFirstCheck :
    (unbuilt { cfgOf 7 with dsssSps := 1001 } [1, 0]).lc ≠ .ready ∧
    (∀ j, j < 9 → checkHolds j (unbuilt { cfgOf 7 with dsssSps := 1001 } [1, 0])) ∧
    ¬ checkHolds 9 (unbuilt { cfgOf 7 with dsssSps := 1001 } [1, 0]) := by
  refine ⟨by decide, fun j hj => ?_, ?_⟩
  · interval_cases j <;> simp only [checkHolds] <;> decide
  · simp only [checkHolds]; decide

/-- The case of check 1. -/
theorem witness_ConstructFailsAtTheFirstCheck_proto :
    (∀ j, j < 1 → checkHolds j (unbuilt (cfgOf 8) [])) ∧ ¬ checkHolds 1 (unbuilt (cfgOf 8) []) := by
  refine ⟨fun j hj => ?_, ?_⟩
  · interval_cases j; trivial
  · simp only [checkHolds]; decide

theorem witness_ReadyFreezesTheConfiguration :
    (ysf []).lc = .ready ∧ Instr.construct ≠ .clear ∧ (nextOf (exec .construct (ysf []))).isSome = true := by
  decide
theorem witness_SeqErrExactlyByTheTable :
    Instr.run.WellFormed ∧ ¬ allowed .run State.reset ∧ allowed (.push 1) (ysf []) ∧ ¬ allowed (.push 1) (dsssDec [1] 1 [])
    ∧ allowed .construct { State.reset with lc := .cfgError } := by
  unfold allowed; decide
theorem witness_SeqErrExactlyByTheTable_after :
    after .run { ysf [] with sticky := ⟨false, true, false, false⟩ } (fun t => t.sticky.seqErr) = some true := by
  decide
theorem witness_InputErrOnlyForBitPersonalities :
    (pocsag []).lc = .ready ∧ (pocsag []).cfg.proto = 5 ∧ (dsssEnc [1] []).lc = .ready ∧
    (dsssEnc [1] []).cfg.proto = 6 ∧ 1 < (2 : Byte).toNat ∧
    (ysf []).cfg.proto ≠ 5 ∧ (ysf []).cfg.proto ≠ 6 ∧ (nextOf (exec (.push 255) (ysf []))).isSome = true ∧
    (nextOf (exec (.pushs 0 0) (ysf []))).isSome = true := by decide
theorem witness_FaultsArePrecise : (nextOf (exec .construct (ysf []))).isSome = true := by decide
theorem witness_RdregReadsTheRegister : 12 < (13 : BitVec 4).toNat ∧ (12 : BitVec 4).toNat ≤ 12 := by decide
theorem witness_PushAppendsUnderTheCap :
    State.reset.lc ≠ .ready ∧ (dsssDec [1] 1 []).cfg.proto = 7 ∧
    (pocsag []).lc = .ready ∧ (pocsag []).cfg.proto = 5 ∧ 1 < (2 : Byte).toNat ∧ (1 : Byte).toNat ≤ 1 ∧
    (ysfCap 2 [1, 2]).lc = .ready ∧ (ysfCap 2 [1, 2]).cfg.proto ≠ 7 ∧
    ((ysfCap 2 [1, 2]).cfg.proto = 5 ∨ (ysfCap 2 [1, 2]).cfg.proto = 6 → (255 : Byte).toNat ≤ 1) ∧
    (ysfCap 2 [1, 2]).ib.length = (ysfCap 2 [1, 2]).cfg.bufcap.toNat := by decide
theorem witness_PushsAppendsUnderTheCap :
    (ysf []).cfg.proto ≠ 7 ∧ (dsssDec [1] 1 []).lc = .ready ∧ (dsssDec [1] 1 []).cfg.proto = 7 := by decide
/-- The units: a byte personality at the cap. -/
theorem witness_BufferKeepsTheNewestUnits :
    (ysfCap 2 [1, 2]).lc = .ready ∧ 1 ≤ (ysfCap 2 [1, 2]).cfg.proto.toNat ∧
    (ysfCap 2 [1, 2]).cfg.proto.toNat ≤ 6 ∧
    ((ysfCap 2 [1, 2]).cfg.proto = 5 ∨ (ysfCap 2 [1, 2]).cfg.proto = 6 → ∀ u ∈ [3], u = (0 : Byte) ∨ u = 1) ∧
    1 ≤ (ysfCap 2 [1, 2]).cfg.bufcap.toNat ∧
    (ysfCap 2 [1, 2]).ib.length ≤ (ysfCap 2 [1, 2]).cfg.bufcap.toNat := by decide

/-- The units: a bit personality, the last PROTO that has units. -/
theorem witness_BufferKeepsTheNewestUnits_bits :
    (dsssEnc [1] [0]).lc = .ready ∧ (dsssEnc [1] [0]).cfg.proto.toNat = 6 ∧
    (∀ u ∈ [0, 1], u = (0 : Byte) ∨ u = 1) ∧ 1 ≤ (dsssEnc [1] [0]).cfg.bufcap.toNat ∧
    (dsssEnc [1] [0]).ib.length ≤ (dsssEnc [1] [0]).cfg.bufcap.toNat := by decide

/-- The samples. -/
theorem witness_BufferKeepsTheNewestUnits_samples :
    (dsssDec [1] 1 [⟨1, 2⟩]).lc = .ready ∧ (dsssDec [1] 1 [⟨1, 2⟩]).cfg.proto = 7 ∧
    1 ≤ (dsssDec [1] 1 [⟨1, 2⟩]).cfg.bufcap.toNat ∧
    (dsssDec [1] 1 [⟨1, 2⟩]).sb.length ≤ (dsssDec [1] 1 [⟨1, 2⟩]).cfg.bufcap.toNat := by decide
theorem witness_RunCompletesSilently : (ysf [1]).lc = .ready ∧ State.reset.lc ≠ .ready := by decide
theorem witness_OnlyRunEmits :
    (nextOf (exec .run (dsssEnc [1, 1, 0] [1, 0]))).isSome = true ∧
    (nextOf (exec (.push 1) (dsssEnc [1] []))).isSome = true ∧ Instr.push 1 ≠ .run := by decide
theorem witness_RunTwiceIsRunOnce : (ysf [0xD4, 0x71]).lc = .ready := by decide
theorem witness_RunEndsWithNothingEnabled :
    (pocsag [0, 1]).Inv ∧ (pocsag [0, 1]).lc = .ready ∧ (pocsag [0, 1]).cfg.proto.toNat ≤ 5 :=
  ⟨State.inv_of_readyCheck .pocsag (by decide), by decide, by decide⟩
theorem witness_RunOnEmptyBufferChangesNothing :
    (dsssEnc [1] []).Inv ∧ (dsssEnc [1] []).lc = .ready ∧ (dsssEnc [1] []).cfg.proto ≠ 7 ∧
    (dsssEnc [1] []).ib = [] :=
  ⟨State.inv_of_readyCheck .dsssEnc (by decide), by decide, by decide, rfl⟩
theorem witness_ChunkBoundariesDoNotMatter :
    (ysfCap 3 [1]).Inv ∧ (ysfCap 3 [1]).lc = .ready ∧ (ysfCap 3 [1]).cfg.proto.toNat ≤ 5 ∧
    (ysfCap 3 [1]).cfg.proto ≠ 2 ∧
    ((ysfCap 3 [1]).cfg.proto = 5 → ∀ u ∈ [0xD4, 0x71], u = (0 : Byte) ∨ u = 1) ∧
    (ysfCap 3 [1]).ib.length + [0xD4, 0x71].length ≤ (ysfCap 3 [1]).cfg.bufcap.toNat :=
  ⟨State.inv_of_readyCheck .ysf (by decide), by decide, by decide, by decide, by decide, by decide⟩

/-- The same at POCSAG, the personality of bits. -/
theorem witness_ChunkBoundariesDoNotMatter_bits :
    (pocsag [1]).Inv ∧ (pocsag [1]).lc = .ready ∧ (pocsag [1]).cfg.proto.toNat ≤ 5 ∧
    (∀ u ∈ [0, 1], u = (0 : Byte) ∨ u = 1) :=
  ⟨State.inv_of_readyCheck .pocsag (by decide), by decide, by decide, by decide⟩

theorem witness_SearchFindsTheFirstWindow :
    Personality.pocsag.isSync = true ∧ searchBuffer .bit .ysf 0x8000 [0, 0xD4, 0x71] = some (1, 0) := by decide
theorem witness_LowerThresholdFindsNoLater :
    0x7000 ≤ 0x7800 ∧ Personality.ysf.isSync = true ∧
    searchBuffer .bit .ysf 0x7800 [0xD4, 0x70] = some (0, 0) ∧ accepts .bit .ysf 0x7800 [0xD4, 0x70] [0xD4, 0x71] 0 := by
  unfold accepts; decide
theorem witness_ExactSyncIsFoundAtOffsetZero :
    Personality.m17.isSync = true ∧ (pats .m17)[1]? = some [0x9F, 0xF6] ∧ 0x8000 ≤ 0x8000 := by decide
/-- V-SD14, V-SD15: both patterns qualify, and each is the search's answer once. -/
theorem witness_M17PatternsNeverTieInBitMode :
    0x6800 < 0x6801 ∧ searchBuffer .bit .m17 0x6800 [0x9F, 0x54] = some (0, 0) ∧
    searchBuffer .bit .m17 0x6800 [0x9F, 0x56] = some (0, 1) := by decide

/-! The frames: one unit of noise before the sync, and for M17 a sync with one bit wrong at a lower threshold. -/

/-- M17 at 0x7000, which tolerates two wrong bits of 16. -/
def m17Loose (maxlen : Reg) (ib : List Byte) : State := atThresh 0x7000 (m17 maxlen ib)

theorem witness_M17LsfFrameIsEmitted :
    searching (m17Loose 33 ([0] ++ [0xDF, 0x54] ++ List.replicate 46 7 ++ [9])) 1 ∧
    [(0xDF : Byte), 0x54].length = 2 ∧ (List.replicate 46 (7 : Byte)).length = 46 ∧
    foundAfter (m17Loose 33 ([0] ++ [0xDF, 0x54] ++ List.replicate 46 7 ++ [9])) .m17 [0] 0 :=
  ⟨⟨State.inv_of_readyCheck .m17 (by decide +kernel), rfl, rfl, rfl⟩, rfl, rfl, by
    unfold foundAfter; decide +kernel⟩
theorem witness_M17PacketIsEmittedFromFourBytes :
    searching (m17Loose 4 ([0] ++ [0x9F, 0xF7] ++ [1, 2] ++ [])) 1 ∧ [(0x9F : Byte), 0xF7].length = 2 ∧
    2 + [(1 : Byte), 2].length = (m17Loose 4 ([0] ++ [0x9F, 0xF7] ++ [1, 2] ++ [])).cfg.m17Maxlen.toNat ∧
    foundAfter (m17Loose 4 ([0] ++ [0x9F, 0xF7] ++ [1, 2] ++ [])) .m17 [0] 1 :=
  ⟨⟨State.inv_of_readyCheck .m17 (by decide), rfl, rfl, rfl⟩, rfl, rfl, by unfold foundAfter; decide +kernel⟩

/-- The clause below 4 bytes. -/
theorem witness_M17PacketIsEmittedFromFourBytes_short :
    searching (m17 3 ([] ++ [0x9F, 0xF6] ++ [1] ++ [5])) 1 ∧
    2 + [(1 : Byte)].length = (m17 3 ([] ++ [0x9F, 0xF6] ++ [1] ++ [5])).cfg.m17Maxlen.toNat ∧
    (m17 3 ([] ++ [0x9F, 0xF6] ++ [1] ++ [5])).cfg.m17Maxlen.toNat < 4 ∧
    foundAfter (m17 3 ([] ++ [0x9F, 0xF6] ++ [1] ++ [5])) .m17 [] 1 :=
  ⟨⟨State.inv_of_readyCheck .m17 (by decide), rfl, rfl, rfl⟩, rfl, by decide, by
    unfold foundAfter; decide +kernel⟩

theorem witness_TruncatedM17FrameEmitsNothing :
    searching (m17Loose 33 ([0] ++ [0xDF, 0x54] ++ List.replicate 45 7)) 1 ∧ [(0xDF : Byte), 0x54].length = 2 ∧
    2 + (List.replicate 45 (7 : Byte)).length < 48 ∧
    foundAfter (m17Loose 33 ([0] ++ [0xDF, 0x54] ++ List.replicate 45 7)) .m17 [0] 0 :=
  ⟨⟨State.inv_of_readyCheck .m17 (by decide +kernel), rfl, rfl, rfl⟩, rfl, by decide, by
    unfold foundAfter; decide +kernel⟩

/-- D-STAR with its sync consumed and `n` bytes waiting. -/
def dstarWaiting (n : Nat) : State := { dstar (List.replicate n 0) with dstate := .dstarSynced }

theorem witness_DstarChoosesByBytesAvailable :
    (dstarWaiting 41).Inv ∧ (dstarWaiting 40).Inv ∧ (dstarWaiting 15).Inv ∧ (dstarWaiting 14).Inv ∧
    (dstarWaiting 41).lc = .ready ∧ (dstarWaiting 41).dstate = .dstarSynced :=
  ⟨State.inv_of_readyCheck .dstar (by decide), State.inv_of_readyCheck .dstar (by decide),
   State.inv_of_readyCheck .dstar (by decide), State.inv_of_readyCheck .dstar (by decide), rfl, rfl⟩
theorem witness_DstarHeaderIsEmitted :
    searching (dstar ([0] ++ [0x55, 0x2D, 0x16] ++ List.replicate 41 0x20 ++ [1])) 2 ∧
    [(0x55 : Byte), 0x2D, 0x16].length = 3 ∧ (List.replicate 41 (0x20 : Byte)).length = 41 ∧
    foundAfter (dstar ([0] ++ [0x55, 0x2D, 0x16] ++ List.replicate 41 0x20 ++ [1])) .dstar [0] 0 :=
  ⟨⟨State.inv_of_readyCheck .dstar (by decide), rfl, rfl, rfl⟩, rfl, rfl, by unfold foundAfter; decide +kernel⟩

/-- D-STAR searching, with `n` bits of slow data from earlier frames. -/
def dstarTalking (n : Nat) (ib : List Byte) : State := { dstar ib with sdacc := List.replicate n false }

/-- SDACC at the cap, and the longest rest. -/
theorem witness_DstarVoiceIsEmitted :
    searching (dstarTalking 168
      ([0] ++ [0x55, 0x2D, 0x16] ++ List.replicate 12 7 ++ [1, 2, 3] ++ List.replicate 25 0)) 2 ∧
    [(0x55 : Byte), 0x2D, 0x16].length = 3 ∧ (List.replicate 12 (7 : Byte)).length = 12 ∧
    [(1 : Byte), 2, 3].length = 3 ∧ (List.replicate 25 (0 : Byte)).length < 26 ∧
    foundAfter (dstarTalking 168
      ([0] ++ [0x55, 0x2D, 0x16] ++ List.replicate 12 7 ++ [1, 2, 3] ++ List.replicate 25 0)) .dstar [0] 0 :=
  ⟨⟨State.inv_of_readyCheck .dstar (by decide +kernel), rfl, rfl, rfl⟩, rfl, rfl, rfl, by decide, by
    unfold foundAfter; decide +kernel⟩

/-- SDACC below the cap, and no rest. -/
theorem witness_DstarVoiceIsEmitted_below_cap :
    searching (dstarTalking 144 ([] ++ [0x55, 0x2D, 0x16] ++ List.replicate 12 7 ++ [1, 2, 3] ++ [])) 2 ∧
    foundAfter (dstarTalking 144 ([] ++ [0x55, 0x2D, 0x16] ++ List.replicate 12 7 ++ [1, 2, 3] ++ [])) .dstar [] 0 :=
  ⟨⟨State.inv_of_readyCheck .dstar (by decide +kernel), rfl, rfl, rfl⟩, by unfold foundAfter; decide +kernel⟩

/-- A P25 frame after a unit of noise, and a unit after it. -/
def p25Frame : State :=
  p25 ([0] ++ [0x55, 0x75, 0xF5, 0xFF, 0x77, 0xFF] ++ List.replicate 8 1 ++ List.replicate 90 2 ++
    List.replicate 90 3 ++ [4])

theorem witness_P25FrameIsEmitted :
    searching p25Frame 3 ∧ [(0x55 : Byte), 0x75, 0xF5, 0xFF, 0x77, 0xFF].length = 6 ∧
    (List.replicate 8 (1 : Byte)).length = 8 ∧ (List.replicate 90 (2 : Byte)).length = 90 ∧
    (List.replicate 90 (3 : Byte)).length = 90 ∧
    p25Frame.ib = [0] ++ [0x55, 0x75, 0xF5, 0xFF, 0x77, 0xFF] ++ List.replicate 8 1 ++ List.replicate 90 2 ++
      List.replicate 90 3 ++ [4] ∧ foundAfter p25Frame .p25 [0] 0 :=
  ⟨⟨State.inv_of_readyCheck .p25 (by decide +kernel), rfl, rfl, rfl⟩, rfl, rfl, rfl, rfl, rfl, by
    unfold foundAfter; decide +kernel⟩
theorem witness_YsfFrameIsEmitted :
    searching (ysf ([0] ++ [0xD4, 0x71] ++ List.replicate 5 1 ++ List.replicate 144 2 ++ [3])) 4 ∧
    [(0xD4 : Byte), 0x71].length = 2 ∧ (List.replicate 5 (1 : Byte)).length = 5 ∧
    (List.replicate 144 (2 : Byte)).length = 144 ∧
    foundAfter (ysf ([0] ++ [0xD4, 0x71] ++ List.replicate 5 1 ++ List.replicate 144 2 ++ [3])) .ysf [0] 0 :=
  ⟨⟨State.inv_of_readyCheck .ysf (by decide +kernel), rfl, rfl, rfl⟩, rfl, rfl, rfl, by
    unfold foundAfter; decide +kernel⟩

/-- A POCSAG batch after three noise bits, as in V-PG14. -/
def pocsagBatch : State := pocsag ([1, 0, 1] ++ (pats .pocsag).flatten ++ List.replicate 512 0 ++ [1])

theorem witness_PocsagBatchEmitsItsPages :
    searching pocsagBatch 5 ∧ (pats .pocsag).flatten.length = 32 ∧
    (List.replicate 512 (0 : Byte)).length = 512 ∧
    pocsagBatch.ib = [1, 0, 1] ++ (pats .pocsag).flatten ++ List.replicate 512 0 ++ [1] ∧
    foundAfter pocsagBatch .pocsag [1, 0, 1] 0 :=
  ⟨⟨State.inv_of_readyCheck .pocsag (by decide +kernel), rfl, rfl, rfl⟩, rfl, by decide +kernel, rfl, by
    unfold foundAfter; decide +kernel⟩

theorem witness_SyndromesSingleOutOneBit :
    syn (0x89A2634D ^^^ 1#32 <<< 11 ^^^ 1#32 <<< 11) = 0 ∧ syn (0x89A2634D ^^^ 1#32 <<< 30 ^^^ 1#32 <<< 30) = 0 := by
  decide +kernel
theorem witness_SingleErrorsAreCorrectedInTheDataBits : syn 0x89A2634D = 0 := by decide +kernel

/-- V-PG6: two errors, at bits 25 and 24. -/
theorem witness_SingleErrorsAreCorrectedInTheDataBits_two :
    syn 0x8AA2634D ≠ 0 ∧ ∀ p, 11 ≤ p → p ≤ 30 → syn (0x8AA2634D ^^^ 1#32 <<< p) ≠ 0 := by
  refine ⟨by decide +kernel, fun p hl hu => ?_⟩
  have h : ∀ q : Fin 31, 11 ≤ q.val → syn (0x8AA2634D ^^^ 1#32 <<< q.val) ≠ 0 := by decide +kernel
  exact h ⟨p, by omega⟩ hl
theorem witness_AddressTakesItsFrameNumber : 15 < 16 := by decide
theorem witness_SpreaderEmitsTheCodeOrItsComplement :
    (dsssEnc [1, 1, 0] [1, 0]).Inv ∧ (dsssEnc [1, 1, 0] [1, 0]).lc = .ready ∧
    (dsssEnc [1, 1, 0] [1, 0]).cfg.proto = 6 :=
  ⟨State.inv_of_readyCheck .dsssEnc (by decide), rfl, rfl⟩
theorem witness_CorrelatorEmitsOnePerSymbol :
    (dsssDec [1, 1, 0] 2 (List.replicate 7 ⟨-2048, 2047⟩)).Inv ∧
    (dsssDec [1, 1, 0] 2 (List.replicate 7 ⟨-2048, 2047⟩)).lc = .ready ∧
    (dsssDec [1, 1, 0] 2 (List.replicate 7 ⟨-2048, 2047⟩)).cfg.proto = 7 :=
  ⟨State.inv_of_readyCheck .dsssDec (by decide), rfl, rfl⟩
theorem witness_SpreadThenCorrelateRecoversTheBit :
    (∀ c ∈ [(1 : Byte), 1, 0], c = 0 ∨ c = 1) ∧ ((0 : Byte) = 0 ∨ (0 : Byte) = 1) ∧ (0 : Int) < 2047 ∧
    (2047 : Int) ≤ 2047 := by decide
theorem witness_CorrelationValuesAreBounded :
    (dsssDec [1, 0] 1000 []).Inv ∧ (dsssDec [1, 0] 1000 []).lc = .ready ∧ (dsssDec [1, 0] 1000 []).cfg.proto = 7 ∧
    ∃ x : List Sample, x.length = (dsssDec [1, 0] 1000 []).code.length * (dsssDec [1, 0] 1000 []).cfg.dsssSps.toNat :=
  ⟨State.inv_of_readyCheck .dsssDec (by decide), rfl, rfl, List.replicate _ ⟨-2048, 0⟩, List.length_replicate⟩

theorem witness_StepKeepsTheInvariant :
    (ysf [0xD4]).Inv ∧ (nextOf (step ((ysf [0xD4]).withFetchWord 32 0x60000000))).isSome = true :=
  ⟨State.inv_of_readyCheck .ysf (by decide), by decide⟩
theorem witness_ChannelsAreIndependent :
    0 < Config.numChannels ∧ [State.reset, ysf []][1]? = some (ysf []) ∧
    (nextOf (step (ysf []))).isSome = true := ⟨Nat.succ_pos _, rfl, by decide⟩

/-! ## Points the log names -/

/-- R88: PUSHBITS32 w is PUSHBITS w, 32, whatever w is (log entry 11). -/
theorem test_pushBits32_is_pushBits :
    assembleLine "PUSHBITS32 0x17CD215D8".toList = assembleLine "PUSHBITS 0x17CD215D8, 32".toList := by decide +kernel
/-- A list with no operand is refused (log entry 11). -/
theorem test_chunk_without_operand : assembleLine "CHUNK".toList = none := by decide

end Sys2Proof.Tests
end

section
/-! PROOFS. STATUS bit by bit, the register file, and RDREG. -/

namespace Sys2Proof.Machine

open Sys2Proof.Claims

/-! ## STATUS (R30) -/

theorem statusBit_getLsbD {place : Nat} (hp : place < 24) (b : Bool) (j : Nat) :
    (statusBit place b).getLsbD j = (b && decide (j = place)) := by
  cases b with
  | false => simp [statusBit]
  | true =>
    refine (BitVec.getLsbD_twoPow place j).trans ?_
    simp [hp, eq_comm]

/-- Bit `j` of STATUS is the one flag whose place is `j`. -/
theorem State.status_getLsbD (s : State) (j : Nat) :
    s.status.getLsbD j =
      ((s.lc == .ready && decide (j = 0)) || (s.lc == .cfgError && decide (j = 1)) ||
       (s.sticky.illegalCmd && decide (j = 2)) || (s.sticky.seqErr && decide (j = 3)) ||
       (s.sticky.inputErr && decide (j = 4)) || (s.sticky.codeOvf && decide (j = 5))) := by
  simp only [State.status, BitVec.getLsbD_or, statusBit_getLsbD (show 0 < 24 by decide),
    statusBit_getLsbD (show 1 < 24 by decide), statusBit_getLsbD (show 2 < 24 by decide),
    statusBit_getLsbD (show 3 < 24 by decide), statusBit_getLsbD (show 4 < 24 by decide),
    statusBit_getLsbD (show 5 < 24 by decide)]

theorem State.status_ready_bit (s : State) : s.status.getLsbD 0 = true ↔ s.lc = .ready := by
  rw [State.status_getLsbD]; simp

theorem State.status_cfgError_bit (s : State) : s.status.getLsbD 1 = true ↔ s.lc = .cfgError := by
  rw [State.status_getLsbD]; simp

theorem State.status_reserved_bits (s : State) {j : Nat} (hj : 6 ≤ j) : s.status.getLsbD j = false := by
  have h : ∀ k, k < 6 → j ≠ k := fun k hk => by omega
  simp [State.status_getLsbD, h]

/-- Settles O21, bit by bit. -/
theorem statusShowsLifecycleAndFaults : Obligations.StatusShowsLifecycleAndFaults := by
  unfold Obligations.StatusShowsLifecycleAndFaults
  intro s
  refine ⟨s.status_ready_bit, s.status_cfgError_bit, ?_, ?_, ?_, ?_, fun j hj => s.status_reserved_bits hj⟩
  all_goals rw [State.status_getLsbD]; simp

/-- The six flags of STATUS as one number. -/
theorem statusBits_toNat (a b c d e f : Bool) :
    (statusBit 0 a ||| statusBit 1 b ||| statusBit 2 c ||| statusBit 3 d ||| statusBit 4 e |||
      statusBit 5 f).toNat =
    (if a then 1 else 0) + (if b then 2 else 0) + (if c then 4 else 0) + (if d then 8 else 0) +
      (if e then 16 else 0) + (if f then 32 else 0) := by
  revert a b c d e f
  decide

theorem State.status_toNat (s : State) :
    s.status.toNat = (if s.lc = .ready then 1 else 0) + (if s.lc = .cfgError then 2 else 0) +
      (if s.sticky.illegalCmd then 4 else 0) + (if s.sticky.seqErr then 8 else 0) +
      (if s.sticky.inputErr then 16 else 0) + (if s.sticky.codeOvf then 32 else 0) := by
  rw [State.status, statusBits_toNat]
  simp only [beq_iff_eq]

/-! ## The register file (R22 to R35) -/

theorem errCodes_getElem_code (e : ErrCode) : errCodes[e.code]? = some e := by cases e <;> rfl

theorem mem_stateCodes (d : DState) : (d, d.code) ∈ stateCodes := by cases d <;> decide

/-- IB_LEN by PROTO and LC (R33). -/
theorem State.ibLen_eq (s : State) :
    s.ibLen = if s.cfg.proto = 7 ∧ s.lc = .ready then s.sb.length else s.ib.length := by
  simp only [State.ibLen, Bool.and_eq_true, State.isReady_iff, State.isDsssDec_iff_proto, and_comm]

/-- A register reads as the spec's value for it, cut to 24 bits. -/
theorem State.readReg_spec (s : State) {n : Nat} (hn : n ≤ 12) :
    ∃ v, regReads s n v ∧ (s.readReg n).toNat = v % 2 ^ 24 := by
  have exact_value {v : Nat} (hv : regReads s n v) (h : (s.readReg n).toNat = v) :
      ∃ v, regReads s n v ∧ (s.readReg n).toNat = v % 2 ^ 24 :=
    ⟨v, hv, by rw [← h, Nat.mod_eq_of_lt (s.readReg n).isLt]⟩
  match n with
  | 0 | 1 | 2 | 3 | 4 | 5 => exact exact_value rfl rfl
  | 6 => exact ⟨_, rfl, BitVec.toNat_ofNat _ _⟩
  | 7 => exact exact_value rfl s.status_toNat
  | 8 => exact ⟨_, errCodes_getElem_code s.errcode, BitVec.toNat_ofNat _ _⟩
  | 9 => exact ⟨_, mem_stateCodes s.dstate, BitVec.toNat_ofNat _ _⟩
  | 10 => exact ⟨_, s.ibLen_eq, BitVec.toNat_ofNat _ _⟩
  | 11 => exact ⟨_, rfl, BitVec.toNat_ofNat _ _⟩
  | 12 => exact exact_value rfl rfl

/-- RDATA is no register, so writing it changes no register's value. -/
@[simp] theorem State.readReg_setRdata (s : State) (v : Word) (n : Nat) :
    (s.setRdata v).readReg n = s.readReg n := rfl

@[simp] theorem State.setRdata_setRdata (s : State) (v w : Word) :
    (s.setRdata v).setRdata w = s.setRdata w := rfl

theorem execRdreg_of_legal {r : BitVec 4} (hr : r.toNat ≤ 12) (s : State) :
    execRdreg r s = .next (s.setRdata ((s.readReg r.toNat).setWidth 32)) := by
  rcases execRdreg_cases r s with ⟨hr', -⟩ | ⟨-, he⟩
  · omega
  · exact he

/-- Settles O22, from the value each register reads as. -/
theorem rdregReadsTheRegister : Obligations.RdregReadsTheRegister := by
  unfold Obligations.RdregReadsTheRegister
  intro r s
  refine ⟨fun hr => if_pos hr, fun hr => ?_⟩
  obtain ⟨v, hv, hread⟩ := s.readReg_spec hr
  refine ⟨v, _, hv, execRdreg_of_legal hr s, ?_, ?_⟩
  · rw [← hread, BitVec.ofNat_toNat]
    rfl
  · exact (execRdreg_of_legal hr _).trans (by rw [State.readReg_setRdata, State.setRdata_setRdata])

end Sys2Proof.Machine
end

section
/-! PROOFS. The effect of a command, said once for all ten, and what follows from it: the reset forms, what RUN and
READY leave alone, and that faults are precise. -/

namespace Sys2Proof.Machine

open Sys2Proof.Claims

/-! ## Reset forms (R45) -/

theorem State.toReset_eq (s : State) : s.toReset = atReset s.out s.toReset := rfl

/-- Settles O9: CLEAR and hard reset are one update. -/
theorem resetFormsGiveResetValues : Obligations.ResetFormsGiveResetValues := by
  unfold Obligations.ResetFormsGiveResetValues
  exact ⟨fun s => ⟨s.toReset, rfl, s.toReset_eq⟩, fun s => s.toReset_eq, rfl⟩

/-! ## The effect of a command -/

/-- What command `i` can do to `s`: one fault, or the command's own update where its checks pass (R277). -/
inductive Effect (s : State) : Instr → State → Prop
  | fault (i : Instr) (k : FaultKind) : Effect s i (s.raise k)
  | nop : Effect s .nop s
  | wrcfg {r : BitVec 4} {v : BitVec 24} (hl : s.lc ≠ .ready) : Effect s (.wrcfg r v) (s.writeCfg r.toNat v)
  | wrcode {c : Byte} (hl : s.lc ≠ .ready) (hc : s.code.length ≠ 256) : Effect s (.wrcode c) (s.appendChip c)
  | construct {p : Personality} (hl : s.lc ≠ .ready) (hc : checkConfig s.cfg s.code = .ok p) :
      Effect s .construct (s.construct p)
  | constructFailed {e : ErrCode} (hl : s.lc ≠ .ready) (hc : checkConfig s.cfg s.code = .error e) :
      Effect s .construct (s.constructFailed e)
  | push {u : Byte} (hl : s.lc = .ready) (hp : s.cfg.proto ≠ 7) (hu : s.badUnit u = false) :
      Effect s (.push u) (s.pushUnit u)
  | pushs {i q : BitVec 12} (hl : s.lc = .ready) (hp : s.cfg.proto = 7) :
      Effect s (.pushs i q) (s.pushSample ⟨i, q⟩)
  | run (hl : s.lc = .ready) : Effect s .run s.runProcedure
  | reset (hl : s.lc = .ready) : Effect s .reset (s.restartData s.resetTarget)
  | clear : Effect s .clear s.toReset
  | rdreg {r : BitVec 4} : Effect s (.rdreg r) (s.setRdata ((s.readReg r.toNat).setWidth 32))

/-- Every command completes, with one of its effects. -/
theorem exec_effect (i : Instr) (s : State) : ∃ t, exec i s = .next t ∧ Effect s i t := by
  cases i with
  | nop => exact ⟨s, rfl, .nop⟩
  | wrcfg r v =>
    rcases execWrcfg_cases r v s with ⟨-, he⟩ | ⟨-, -, he⟩ | ⟨-, hl, he⟩
    exacts [⟨_, he, .fault _ _⟩, ⟨_, he, .fault _ _⟩, ⟨_, he, .wrcfg hl⟩]
  | wrcode c =>
    rcases execWrcode_cases c s with ⟨-, he⟩ | ⟨-, -, he⟩ | ⟨hl, hc, he⟩
    exacts [⟨_, he, .fault _ _⟩, ⟨_, he, .fault _ _⟩, ⟨_, he, .wrcode hl hc⟩]
  | construct =>
    rcases execConstruct_cases s with ⟨-, he⟩ | ⟨hl, p, hc, he⟩ | ⟨hl, e, hc, he⟩
    exacts [⟨_, he, .fault _ _⟩, ⟨_, he, .construct hl hc⟩, ⟨_, he, .constructFailed hl hc⟩]
  | push u =>
    rcases execPush_cases u s with ⟨-, he⟩ | ⟨-, -, -, he⟩ | ⟨hl, hp, hu, he⟩
    exacts [⟨_, he, .fault _ _⟩, ⟨_, he, .fault _ _⟩, ⟨_, he, .push hl hp hu⟩]
  | pushs i q =>
    rcases execPushs_cases i q s with ⟨-, he⟩ | ⟨hl, hp, he⟩
    exacts [⟨_, he, .fault _ _⟩, ⟨_, he, .pushs hl hp⟩]
  | run =>
    rcases execRun_cases s with ⟨hl, he⟩ | ⟨-, he⟩
    exacts [⟨_, he, .run hl⟩, ⟨_, he, .fault _ _⟩]
  | reset =>
    rcases execReset_cases s with ⟨hl, he⟩ | ⟨-, he⟩
    exacts [⟨_, he, .reset hl⟩, ⟨_, he, .fault _ _⟩]
  | clear => exact ⟨_, rfl, .clear⟩
  | rdreg r =>
    rcases execRdreg_cases r s with ⟨-, he⟩ | ⟨-, he⟩
    exacts [⟨_, he, .fault _ _⟩, ⟨_, he, .rdreg⟩]

theorem effect_of_exec {i : Instr} {s t : State} (h : exec i s = .next t) : Effect s i t := by
  obtain ⟨u, hu, he⟩ := exec_effect i s
  rw [hu] at h
  cases h
  exact he

/-! ## What RUN leaves alone -/

/-- What RUN leaves alone for every personality: everything but the data state, OUT with its count, and the draws. -/
structure State.RunFrame (s t : State) : Prop where
  lc : t.lc = s.lc
  cfg : t.cfg = s.cfg
  code : t.code = s.code
  sticky : t.sticky = s.sticky
  errcode : t.errcode = s.errcode
  rdata : t.rdata = s.rdata
  port : t.port = s.port
  channel : t.channel = s.channel
  params : t.params = s.params

theorem State.DeframeFrame.runFrame {s t : State} (h : s.DeframeFrame t) : s.RunFrame t := { h with }

theorem spreadRun_frame (s : State) : s.RunFrame (spreadRun s) := by
  rw [spreadRun_eq]
  constructor <;> rfl

theorem correlateRun_frame (s : State) : s.RunFrame (correlateRun s) := by
  rw [correlateRun_eq]
  constructor <;> rfl

theorem State.runProcedure_frame (s : State) : s.RunFrame s.runProcedure := by
  unfold State.runProcedure
  cases s.personality with
  | none => constructor <;> rfl
  | some p =>
    cases p with
    | m17 | dstar | p25 | ysf | pocsag => exact (deframeRun_frame s).runFrame
    | dsssEnc => exact spreadRun_frame s
    | dsssDec => exact correlateRun_frame s

/-! ## READY freezes the configuration (R28, R111, R294) -/

/-- Settles O17, by the effects a command can have in READY. -/
theorem readyFreezesTheConfiguration : Obligations.ReadyFreezesTheConfiguration := by
  unfold Obligations.ReadyFreezesTheConfiguration
  intro i s t hready hclear h
  cases effect_of_exec h with
  | wrcfg hl | wrcode hl | construct hl | constructFailed hl => exact absurd hready hl
  | clear => exact absurd rfl hclear
  | run =>
    have hf := s.runProcedure_frame
    exact ⟨hf.lc.trans hready, hf.cfg, hf.code, hf.errcode⟩
  | fault | nop | push | pushs | reset | rdreg => exact ⟨hready, rfl, rfl, rfl⟩

/-! ## Faults are precise (R272) -/

/-- `raise` is one of the four updates of the statements. -/
theorem State.raise_cases (k : FaultKind) (s : State) :
    s.raise k = illegalCmdRaised s ∨ s.raise k = seqErrRaised s ∨ s.raise k = inputErrRaised s ∨
    s.raise k = codeOvfRaised s := by
  cases k with
  | illegalCmd => exact .inl rfl
  | seqErr => exact .inr (.inl rfl)
  | inputErr => exact .inr (.inr (.inl rfl))
  | codeOvf => exact .inr (.inr (.inr rfl))

/-- Settles O20: only the effect of a fault, and CLEAR's, touch the sticky bits. -/
theorem faultsArePrecise : Obligations.FaultsArePrecise := by
  unfold Obligations.FaultsArePrecise
  intro i s t h
  cases effect_of_exec h with
  | fault _ k => exact .inr (.inr (s.raise_cases k))
  | clear => exact .inl rfl
  | run => exact .inr (.inl s.runProcedure_frame.sticky)
  | nop | wrcfg | wrcode | construct | constructFailed | push | pushs | reset | rdreg =>
    exact .inr (.inl rfl)

end Sys2Proof.Machine
end

section
/-! PROOFS. The checks of CONSTRUCT by the numbers in the registers (R114), and the constructed channel (R113). -/

namespace Sys2Proof.Machine

open Sys2Proof.Claims

/-! ## PROTO by personality -/

/-- The PROTO that selects a personality (R22). -/
def Personality.number : Personality → Nat
  | .m17 => 1
  | .dstar => 2
  | .p25 => 3
  | .ysf => 4
  | .pocsag => 5
  | .dsssEnc => 6
  | .dsssDec => 7

theorem personalityOf_eq_some {proto : Reg} {p : Personality} (h : personalityOf proto = some p) :
    proto.toNat = p.number := by
  unfold personalityOf at h
  split at h <;> cases h <;> assumption

/-- DSTATE starts by PROTO (R113). -/
theorem Personality.startState_eq (p : Personality) :
    p.startState = if p.number ≤ 5 then .syncSearch else .dsssStream := by cases p <;> rfl

/-! ## The checks of R114

For a channel whose PROTO selects `p`, each check of the model is the check of the table, by number. -/

section
variable {s : State} {p : Personality} (hp : s.personality = some p)
include hp

theorem checkThresh_iff : checkThresh p s.cfg = true ↔ checkHolds 2 s := by
  have hn := personalityOf_eq_some hp
  simp only [checkThresh, Bool.or_eq_true, decide_eq_true_eq]
  cases p <;> simp [checkHolds, hn, Personality.number, Personality.isSync, Config.threshMax]

theorem checkBufcap_iff : checkBufcap p s.cfg = true ↔ checkHolds 3 s := by
  have hn := personalityOf_eq_some hp
  simp only [checkBufcap, Bool.and_eq_true, Bool.or_eq_true, decide_eq_true_eq]
  cases p <;> simp [checkHolds, hn, Personality.number, Personality.isSync, Personality.width,
    syncWidth, Config.bufcapMax, and_assoc]

theorem checkM17Maxlen_iff : checkM17Maxlen p s.cfg = true ↔ checkHolds 4 s := by
  have hn := personalityOf_eq_some hp
  cases p <;> simp [checkM17Maxlen, checkHolds, hn, Personality.number]

theorem checkBaud_iff : checkBaud p s.cfg = true ↔ checkHolds 5 s := by
  have hn := personalityOf_eq_some hp
  cases p <;> simp [checkBaud, checkHolds, hn, Personality.number, ← BitVec.toNat_inj, or_assoc]

theorem checkCodeNonempty_iff : checkCodeNonempty p s.code = true ↔ checkHolds 6 s := by
  have hn := personalityOf_eq_some hp
  cases p <;> simp [checkCodeNonempty, checkHolds, hn, Personality.number, Personality.isDsss]

theorem checkChips_iff : checkChips p s.code = true ↔ checkHolds 7 s := by
  have hn := personalityOf_eq_some hp
  have hbit (c : Byte) : c.toNat ≤ 1 ↔ c = 0 ∨ c = 1 := by bv_omega
  cases p <;> simp [checkChips, checkHolds, hn, Personality.number, Personality.isDsss, hbit]

theorem checkSps_iff : checkSps p s.cfg = true ↔ checkHolds 8 s := by
  have hn := personalityOf_eq_some hp
  cases p <;> simp [checkSps, checkHolds, hn, Personality.number]

theorem checkSymbol_iff : checkSymbol p s.cfg s.code = true ↔ checkHolds 9 s := by
  have hn := personalityOf_eq_some hp
  cases p <;> simp [checkSymbol, checkHolds, hn, Personality.number]

end

/-- Where all nine checks hold, PROTO selects a personality and CONSTRUCT accepts it. -/
theorem checkConfig_of_checksHold {s : State} (h : ∀ k, checkHolds k s) :
    ∃ p, s.personality = some p ∧ checkConfig s.cfg s.code = .ok p := by
  obtain ⟨p, hp⟩ := Option.isSome_iff_exists.mp ((personalityOf_isSome s.cfg.proto).mpr (h 1))
  refine ⟨p, hp, ?_⟩
  simp [checkConfig, hp, (checkThresh_iff hp).mpr (h 2), (checkBufcap_iff hp).mpr (h 3),
    (checkM17Maxlen_iff hp).mpr (h 4), (checkBaud_iff hp).mpr (h 5), (checkCodeNonempty_iff hp).mpr (h 6),
    (checkChips_iff hp).mpr (h 7), (checkSps_iff hp).mpr (h 8), (checkSymbol_iff hp).mpr (h 9)]

/-! ## CONSTRUCT -/

theorem execConstruct_of_ready {s : State} (hl : s.lc = .ready) :
    execConstruct s = .next (s.raise .seqErr) := by
  rcases execConstruct_cases s with ⟨-, he⟩ | ⟨hl', -⟩ | ⟨hl', -⟩
  exacts [he, absurd hl hl', absurd hl hl']

theorem execConstruct_of_accepted {s : State} {p : Personality} (hl : s.lc ≠ .ready)
    (hc : checkConfig s.cfg s.code = .ok p) : execConstruct s = .next (s.construct p) := by
  rcases execConstruct_cases s with ⟨hl', -⟩ | ⟨-, q, hq, he⟩ | ⟨-, e, hq, -⟩
  · exact absurd hl' hl
  · rw [hc] at hq
    cases hq
    exact he
  · rw [hc] at hq
    cases hq

/-- Settles O15, from the checks by number. -/
theorem constructSucceeds : Obligations.ConstructSucceeds := by
  unfold Obligations.ConstructSucceeds
  refine ⟨fun s hl hchecks => ?_, fun s hl => execConstruct_of_ready hl⟩
  obtain ⟨p, hp, hc⟩ := checkConfig_of_checksHold hchecks
  refine ⟨s.construct p, execConstruct_of_accepted hl hc, ?_, (State.status_ready_bit _).mpr rfl, ?_⟩
  · rw [personalityOf_eq_some hp, ← Personality.startState_eq]
    rfl
  · rw [Bool.eq_false_iff, ne_eq, State.status_cfgError_bit]
    exact nofun

end Sys2Proof.Machine
end

section
/-! PROOFS. The invariant of 10_state.md at reset and through every step. The commands that do not deframe keep it
clause by clause; RUN of a sync personality keeps it through `State.Deframing`, which also holds between two passes
of the loop, where FB may be full. -/

namespace Sys2Proof.Machine

/-! ## Reset and faults -/

/-- A channel at reset, whatever OUT and the model's own fields hold, meets the invariant. -/
theorem State.toReset_inv (s : State) : s.toReset.Inv where
  code_capped := Nat.zero_le _
  errcode_fits := rfl
  not_ready _ := ⟨rfl, rfl, rfl, rfl, rfl, rfl, rfl, rfl, rfl, rfl⟩
  ready h := nomatch h

/-- Settles O55: the power-on state is its own reset. -/
theorem resetMeetsTheInvariant : Obligations.ResetMeetsTheInvariant :=
  State.toReset_inv State.reset

/-- The invariant does not speak of the sticky bits, RDATA and the port. -/
theorem State.Inv.with_unconstrained {s : State} (h : s.Inv) (b : Sticky) (v : Word) (port : List HostEvent) :
    ({ s with sticky := b, rdata := v, port := port } : State).Inv where
  code_capped := h.code_capped
  errcode_fits := h.errcode_fits
  not_ready hl := { h.not_ready hl with }
  ready hl := (h.ready hl).imp fun _ hp => { hp with }

theorem State.Inv.raise {s : State} (h : s.Inv) (k : FaultKind) : (s.raise k).Inv :=
  h.with_unconstrained (s.sticky.set k) s.rdata s.port

theorem State.Inv.setRdata {s : State} (h : s.Inv) (v : Word) : (s.setRdata v).Inv :=
  h.with_unconstrained s.sticky v s.port

theorem State.Inv.withPort {s : State} (h : s.Inv) (port : List HostEvent) : (s.withPort port).Inv :=
  h.with_unconstrained s.sticky s.rdata port

/-- A constructed channel meets the invariant when its data state fits its personality. -/
theorem State.Inv.of_readyFor {s : State} {p : Personality} (hcode : s.code.length ≤ Config.codeMax)
    (hl : s.lc = .ready) (he : s.errcode = .none) (h : s.ReadyFor p) : s.Inv where
  code_capped := hcode
  errcode_fits := by rw [hl]; exact he
  not_ready hn := absurd hl hn
  ready _ := ⟨p, h⟩

theorem State.Inv.errcode_of_ready {s : State} (h : s.Inv) (hl : s.lc = .ready) : s.errcode = .none := by
  have he := h.errcode_fits
  rw [hl] at he
  exact he

/-! ## Configuration commands -/

theorem State.Inv.writeCfg {s : State} (h : s.Inv) (hl : s.lc ≠ .ready) (n : Nat) (v : Reg) :
    (s.writeCfg n v).Inv where
  code_capped := h.code_capped
  errcode_fits := h.errcode_fits
  not_ready _ := { h.not_ready hl with }
  ready hr := absurd hr hl

theorem State.Inv.appendChip {s : State} (h : s.Inv) (hl : s.lc ≠ .ready) (hc : s.code.length ≠ 256)
    (c : Byte) : (s.appendChip c).Inv where
  code_capped := by
    have hcap : s.code.length ≤ 256 := h.code_capped
    have hmax : Config.codeMax = 256 := rfl
    rw [State.appendChip_code, List.length_append, List.length_singleton, hmax]
    omega
  errcode_fits := h.errcode_fits
  not_ready _ := { h.not_ready hl with }
  ready hr := absurd hr hl

theorem State.Inv.constructFailed {s : State} (h : s.Inv) (hl : s.lc ≠ .ready) {e : ErrCode}
    (he : e ≠ .none) : (s.constructFailed e).Inv where
  code_capped := h.code_capped
  errcode_fits := he
  not_ready _ := { h.not_ready hl with dstate_idle := rfl }
  ready hr := nomatch hr

/-- What the invariant reads off the state in which a personality starts (R113): nothing is collected or held. -/
theorem Personality.startState_facts (p : Personality) :
    p.startState.fits p = true ∧ p.startState.collecting = false ∧ (∀ c, expectedLength c p.startState = 0) ∧
    nidLength p.startState = 0 ∧ ldu1Length p.startState = 0 ∧ fichLength p.startState = 0 := by
  cases p <;> exact ⟨rfl, rfl, fun _ => rfl, rfl, rfl, rfl⟩

/-- The restarted data state of CONSTRUCT and RESET fits the personality the configuration selects. -/
theorem State.restartData_readyFor {s : State} {p : Personality} (hc : checkConfig s.cfg s.code = .ok p) :
    (s.restartData p.startState).ReadyFor p := by
  obtain ⟨hfits, hcol, hexp, hnid, hldu1, hfich⟩ := p.startState_facts
  exact
    { config_ok := hc
      dstate_fits := hfits
      exp_eq := (hexp s.cfg).symm
      fb_partial := fun h => absurd (hcol.symm.trans h) Bool.false_ne_true
      fb_empty := fun _ => rfl
      ib_capped := Nat.zero_le _
      sb_capped := Nat.zero_le _
      sb_unused := fun _ => rfl
      ib_unused := fun _ => rfl
      bits_only := fun _ => ⟨rfl, rfl⟩
      nid_length := hnid.symm
      ldu1_length := hldu1.symm
      fich_length := hfich.symm
      sdacc_capped := Nat.zero_le _
      sdacc_groups := rfl
      sdacc_unused := fun _ => rfl }

theorem State.Inv.construct {s : State} (h : s.Inv) {p : Personality}
    (hc : checkConfig s.cfg s.code = .ok p) : (s.construct p).Inv :=
  .of_readyFor h.code_capped rfl rfl { State.restartData_readyFor hc with }

theorem State.Inv.softReset {s : State} (h : s.Inv) (hl : s.lc = .ready) :
    (s.restartData s.resetTarget).Inv := by
  obtain ⟨p, hp⟩ := h.ready hl
  have htarget : s.resetTarget = p.startState := by rw [State.resetTarget, hp.personality_eq]
  rw [htarget]
  exact .of_readyFor h.code_capped hl (h.errcode_of_ready hl) (State.restartData_readyFor hp.config_ok)

/-! ## Input commands -/

/-- A configuration CONSTRUCT accepts has room for one element at least (R114, check 3). -/
theorem one_le_bufcap {c : Cfg} {code : List Byte} {p : Personality} (h : checkConfig c code = .ok p) :
    1 ≤ c.bufcap.toNat := by
  obtain ⟨-, -, hb, -⟩ := checkConfig_ok h
  simp only [checkBufcap, Bool.and_eq_true, decide_eq_true_eq] at hb
  exact hb.1.1

theorem unitsAreBits_iff (us : List Byte) : unitsAreBits us = true ↔ ∀ u ∈ us, u.toNat ≤ 1 := by
  simp [unitsAreBits]

theorem unitsAreBits_append (us vs : List Byte) :
    unitsAreBits (us ++ vs) = true ↔ unitsAreBits us = true ∧ unitsAreBits vs = true := by
  simp [unitsAreBits]

/-- Units taken out of bits are bits. -/
theorem unitsAreBits_of_subset {us vs : List Byte} (h : unitsAreBits vs = true) (hsub : us ⊆ vs) :
    unitsAreBits us = true :=
  (unitsAreBits_iff us).mpr fun u hu => (unitsAreBits_iff vs).mp h u (hsub hu)

theorem unitsAreBits_capAppend {cap : Nat} {us : List Byte} {u : Byte} (h : unitsAreBits us = true)
    (hu : u.toNat ≤ 1) : unitsAreBits (capAppend cap us u) = true := by
  rw [unitsAreBits_iff] at h ⊢
  intro v hv
  rcases mem_of_mem_capAppend hv with hv | rfl
  exacts [h v hv, hu]

/-- A unit PUSH lets through to a bit personality is a bit (R273). -/
theorem State.unit_is_bit {s : State} {p : Personality} {u : Byte} (hp : s.personality = some p)
    (hbit : p.isBit = true) (hu : s.badUnit u = false) : u.toNat ≤ 1 := by
  rw [Bool.eq_false_iff, ne_eq, State.badUnit_iff] at hu
  exact Nat.le_of_not_lt fun hlt => hu ⟨p, hp, hbit, hlt⟩

/-- DSSS_DEC is PROTO 7, for a constructed channel. -/
theorem State.ReadyFor.eq_dsssDec_iff {s : State} {p : Personality} (h : s.ReadyFor p) :
    p = .dsssDec ↔ s.cfg.proto = 7 := by
  rw [← State.isDsssDec_iff_proto, State.isDsssDec_iff, h.personality_eq, Option.some_inj]

theorem State.ReadyFor.pushUnit {s : State} {p : Personality} (h : s.ReadyFor p) (hp : s.cfg.proto ≠ 7)
    {u : Byte} (hu : s.badUnit u = false) : (s.pushUnit u).ReadyFor p :=
  { h with
    ib_capped := capAppend_length_le u (one_le_bufcap h.config_ok) h.ib_capped
    ib_unused := fun hd => absurd (h.eq_dsssDec_iff.mp hd) hp
    bits_only := fun hb =>
      ⟨unitsAreBits_capAppend (h.bits_only hb).1 (State.unit_is_bit h.personality_eq hb hu),
       (h.bits_only hb).2⟩ }

theorem State.ReadyFor.pushSample {s : State} {p : Personality} (h : s.ReadyFor p) (hp : s.cfg.proto = 7)
    (x : Sample) : (s.pushSample x).ReadyFor p :=
  { h with
    sb_capped := capAppend_length_le x (one_le_bufcap h.config_ok) h.sb_capped
    sb_unused := fun hd => absurd (h.eq_dsssDec_iff.mpr hp) hd }

/-! ## RUN of the DSSS personalities -/

theorem State.ReadyFor.spreadRun {s : State} {p : Personality} (h : s.ReadyFor p) : (spreadRun s).ReadyFor p := by
  rw [spreadRun_eq]
  exact { h with
    ib_capped := Nat.zero_le _
    ib_unused := fun _ => rfl
    bits_only := fun hb => ⟨rfl, (h.bits_only hb).2⟩ }

theorem State.ReadyFor.correlateRun {s : State} {p : Personality} (h : s.ReadyFor p) :
    (correlateRun s).ReadyFor p := by
  rw [correlateRun_eq]
  exact { h with
    sb_capped := (List.drop_sublist _ s.sb).length_le.trans h.sb_capped
    sb_unused := fun hd => by simp [h.sb_unused hd] }

/-! ## The deframing invariant -/

/-- What holds before and after every pass of the RUN loop of a sync personality: `State.ReadyFor`, but a frame part
being collected may be complete. -/
structure State.Deframing (s : State) (p : Personality) : Prop where
  config_ok : checkConfig s.cfg s.code = .ok p
  sync : p.isSync = true
  dstate_fits : s.dstate.fits p = true
  exp_eq : s.exp = expectedLength s.cfg s.dstate
  fb_le : s.dstate.collecting = true → s.fb.length ≤ s.exp
  fb_empty : s.dstate.collecting = false → s.fb = []
  ib_capped : s.ib.length ≤ s.cfg.bufcap.toNat
  sb_empty : s.sb = []
  bits_only : p.isBit = true → unitsAreBits s.ib = true ∧ unitsAreBits s.fb = true
  nid_length : s.nidreg.length = nidLength s.dstate
  ldu1_length : s.ldu1reg.length = ldu1Length s.dstate
  fich_length : s.fichreg.length = fichLength s.dstate
  sdacc_capped : s.sdacc.length ≤ Config.dstarSdCap
  sdacc_groups : s.sdacc.length % 24 = 0
  sdacc_unused : p ≠ .dstar → s.sdacc = []

theorem Personality.ne_dsssDec_of_isSync {p : Personality} (h : p.isSync = true) : p ≠ .dsssDec := by
  rintro rfl
  exact absurd h (by decide)

theorem State.ReadyFor.deframing {s : State} {p : Personality} (h : s.ReadyFor p) (hs : p.isSync = true) :
    s.Deframing p :=
  { h with
    sync := hs
    fb_le := fun hc => Nat.le_of_lt (h.fb_partial hc)
    sb_empty := h.sb_unused (Personality.ne_dsssDec_of_isSync hs) }

/-- Between commands no complete part is left in FB. -/
theorem State.Deframing.readyFor {s : State} {p : Personality} (h : s.Deframing p)
    (hpart : s.dstate.collecting = true → s.fb.length ≠ s.exp) : s.ReadyFor p :=
  { h with
    fb_partial := fun hc => Nat.lt_of_le_of_ne (h.fb_le hc) (hpart hc)
    sb_capped := by rw [h.sb_empty]; exact Nat.zero_le _
    sb_unused := fun _ => h.sb_empty
    ib_unused := fun hd => absurd hd (Personality.ne_dsssDec_of_isSync h.sync) }

/-! ### The moves of a pass -/

/-- The entry to DSTATE `d` with EXP as R38 has it, and new contents for FB and the holding registers. -/
def State.enter (d : DState) (fb nid ldu1 fich : List Byte) (s : State) : State :=
  { s with dstate := d, exp := expectedLength s.cfg d, fb := fb, nidreg := nid, ldu1reg := ldu1, fichreg := fich }

/-- Every change of DSTATE in the loop goes through this: the new contents have to fit the new state. -/
theorem State.Deframing.enter {s : State} {p : Personality} (h : s.Deframing p) {d : DState}
    {fb nid ldu1 fich : List Byte} (hfits : d.fits p = true)
    (hfb : d.collecting = true → fb.length ≤ expectedLength s.cfg d) (hnil : d.collecting = false → fb = [])
    (hbits : p.isBit = true → unitsAreBits fb = true) (hnid : nid.length = nidLength d)
    (hldu1 : ldu1.length = ldu1Length d) (hfich : fich.length = fichLength d) :
    (s.enter d fb nid ldu1 fich).Deframing p :=
  { h with
    dstate_fits := hfits
    exp_eq := rfl
    fb_le := hfb
    fb_empty := hnil
    bits_only := fun hb => ⟨(h.bits_only hb).1, hbits hb⟩
    nid_length := hnid
    ldu1_length := hldu1
    fich_length := hfich }

theorem State.endFrame_eq_enter (s : State) : s.endFrame = s.enter .syncSearch [] [] [] [] := rfl

theorem State.expect_eq_enter (d : DState) (s : State) :
    s.expect d (expectedLength s.cfg d) = s.enter d s.fb s.nidreg s.ldu1reg s.fichreg := rfl

theorem State.Deframing.endFrame {s : State} {p : Personality} (h : s.Deframing p) : s.endFrame.Deframing p := by
  rw [State.endFrame_eq_enter]
  exact h.enter h.sync nofun (fun _ => rfl) (fun _ => rfl) rfl rfl rfl

theorem State.Deframing.emit {s : State} {p : Personality} (h : s.Deframing p) (r : Record) :
    (s.emit r).Deframing p := { h with }

theorem State.Deframing.emitAll {s : State} {p : Personality} (h : s.Deframing p) (rs : List Record) :
    (s.emitAll rs).Deframing p := by
  rw [State.emitAll_eq]
  exact { h with }

theorem State.Deframing.countDraw {s : State} {p : Personality} (h : s.Deframing p) :
    s.countDraw.Deframing p := { h with }

theorem State.Deframing.dropUnits {s : State} {p : Personality} (h : s.Deframing p) (n : Nat) :
    (s.dropUnits n).Deframing p :=
  { h with
    ib_capped := (List.drop_sublist n s.ib).length_le.trans h.ib_capped
    bits_only := fun hb =>
      ⟨unitsAreBits_of_subset (h.bits_only hb).1 (List.drop_subset n s.ib), (h.bits_only hb).2⟩ }

theorem State.Deframing.collect {s : State} {p : Personality} (h : s.Deframing p)
    (hc : s.dstate.collecting = true) : s.collect.Deframing p :=
  { h with
    fb_le := fun _ => by
      have hle := h.fb_le hc
      simp only [State.collect_fb, State.collect_exp, collectUnits_eq, List.length_append, List.length_take]
      omega
    fb_empty := fun hn => absurd (hn.symm.trans hc) Bool.false_ne_true
    ib_capped := by
      rw [State.collect_ib, collectUnits_eq]
      exact (List.drop_sublist _ s.ib).length_le.trans h.ib_capped
    bits_only := fun hb => by
      obtain ⟨hib, hfb⟩ := h.bits_only hb
      have hall := (unitsAreBits_append s.fb s.ib).mpr ⟨hfb, hib⟩
      rw [← collectUnits_append s.exp, unitsAreBits_append] at hall
      exact hall.symm }

/-- Three slow-data bytes keep SDACC within its cap and in groups of 24 bits (R196, R197). -/
theorem State.Deframing.sdAppend {s : State} (h : s.Deframing .dstar) {sd : List Byte} (hsd : sd.length = 3) :
    (s.setSdacc (sdAppend sd s.sdacc)).Deframing .dstar := by
  have hlen := sdAppend_length sd s.sdacc hsd
  have hcap : Config.dstarSdCap = 168 := rfl
  have hgroups := h.sdacc_groups
  exact { h with
    sdacc_capped := by rw [State.setSdacc_sdacc, hcap, hlen]; split <;> omega
    sdacc_groups := by rw [State.setSdacc_sdacc, hlen]; split <;> omega
    sdacc_unused := fun hne => absurd rfl hne }

/-! ### A sync is found, and the D-STAR choice (R146, R191) -/

/-- Between frames the holding registers are empty, and the first part of a frame keeps them so. -/
theorem State.Deframing.enterFirst {s : State} {p : Personality} (h : s.Deframing p) {d : DState}
    {fb : List Byte} (hd : s.dstate = .syncSearch ∨ s.dstate = .dstarSynced) (hfits : d.fits p = true)
    (hregs : nidLength d = 0 ∧ ldu1Length d = 0 ∧ fichLength d = 0)
    (hfb : d.collecting = true → fb.length ≤ expectedLength s.cfg d) (hnil : d.collecting = false → fb = [])
    (hbits : p.isBit = true → unitsAreBits fb = true) :
    (s.enter d fb s.nidreg s.ldu1reg s.fichreg).Deframing p := by
  have hidle : nidLength s.dstate = 0 ∧ ldu1Length s.dstate = 0 ∧ fichLength s.dstate = 0 := by
    rcases hd with hd | hd <;> rw [hd] <;> exact ⟨rfl, rfl, rfl⟩
  obtain ⟨hnid, hldu1, hfich⟩ := hidle
  obtain ⟨hnid', hldu1', hfich'⟩ := hregs
  exact h.enter hfits hfb hnil hbits (h.nid_length.trans (hnid.trans hnid'.symm))
    (h.ldu1_length.trans (hldu1.trans hldu1'.symm)) (h.fich_length.trans (hfich.trans hfich'.symm))

/-- The entry to a part that starts with FB empty, as it is between frames. -/
theorem State.Deframing.expect {s : State} {p : Personality} (h : s.Deframing p) {d : DState}
    (hd : s.dstate = .syncSearch ∨ s.dstate = .dstarSynced) (hfits : d.fits p = true)
    (hregs : nidLength d = 0 ∧ ldu1Length d = 0 ∧ fichLength d = 0) :
    (s.expect d (expectedLength s.cfg d)).Deframing p := by
  have hfb : s.fb = [] := h.fb_empty (by rcases hd with hd | hd <;> rw [hd] <;> rfl)
  rw [State.expect_eq_enter]
  exact h.enterFirst hd hfits hregs (fun _ => by rw [hfb]; exact Nat.zero_le _) (fun _ => hfb)
    (fun hb => (h.bits_only hb).2)

/-- M17 starts a frame with the sync it found, which fits: CONSTRUCT wants M17_MAXLEN >= 2 (R114, R180). -/
theorem State.Deframing.onSyncM17 {s : State} (h : s.Deframing .m17) (hd : s.dstate = .syncSearch) (k : Nat) :
    (onSyncM17 k s).Deframing .m17 := by
  have hmax : 2 ≤ s.cfg.m17Maxlen.toNat := by
    obtain ⟨-, -, -, hm, -⟩ := checkConfig_ok h.config_ok
    simpa [checkM17Maxlen] using hm
  have htake : (s.ib.take 2).length ≤ 2 := List.length_take_le 2 s.ib
  unfold Machine.onSyncM17
  split
  · exact (h.dropUnits 2).enterFirst (d := .m17Lsf) (.inl hd) rfl ⟨rfl, rfl, rfl⟩
      (fun _ => htake.trans (show 2 ≤ 48 by decide)) nofun nofun
  · exact (h.dropUnits 2).enterFirst (d := .m17Pkt) (.inl hd) rfl ⟨rfl, rfl, rfl⟩
      (fun _ => htake.trans hmax) nofun nofun

theorem State.Deframing.onSync {s : State} {p : Personality} (h : s.Deframing p) (hd : s.dstate = .syncSearch)
    (k : Nat) : (s.onSync k).Deframing p := by
  have hp : s.personality = some p := (checkConfig_ok h.config_ok).1
  have hs := h.sync
  unfold State.onSync
  rw [hp]
  cases p with
  | m17 => exact h.onSyncM17 hd k
  | dstar => exact (h.dropUnits 3).expect (d := .dstarSynced) (.inl hd) rfl ⟨rfl, rfl, rfl⟩
  | p25 => exact (h.dropUnits 6).expect (d := .p25Nid) (.inl hd) rfl ⟨rfl, rfl, rfl⟩
  | ysf => exact (h.dropUnits 2).expect (d := .ysfFich) (.inl hd) rfl ⟨rfl, rfl, rfl⟩
  | pocsag => exact (h.dropUnits 32).expect (d := .pocsagBatch) (.inl hd) rfl ⟨rfl, rfl, rfl⟩
  | dsssEnc | dsssDec => exact absurd hs (by decide)

theorem State.Deframing.dstarChoose {s t : State} {p : Personality} (h : s.Deframing p)
    (hd : s.dstate = .dstarSynced) (ht : s.dstarChoose = some t) : t.Deframing p := by
  have hfits := h.dstate_fits
  rw [hd] at hfits
  rcases s.dstarChoose_cases with ⟨-, hc⟩ | ⟨-, -, hc⟩ | ⟨-, hc⟩ <;> rw [hc] at ht <;> cases ht
  · exact h.expect (d := .dstarHeader) (.inr hd) hfits ⟨rfl, rfl, rfl⟩
  · exact h.expect (d := .dstarVoice) (.inr hd) hfits ⟨rfl, rfl, rfl⟩

/-! ### A part is complete (R162) -/

/-- A complete part is as long as R38 says. -/
theorem State.Deframing.fb_length {s : State} {p : Personality} (h : s.Deframing p)
    (hfull : s.fb.length = s.exp) : s.fb.length = expectedLength s.cfg s.dstate :=
  hfull.trans h.exp_eq

/-- The NID is held: P25 goes on to LDU1 (R211). -/
theorem State.Deframing.completeP25Nid {s : State} {p : Personality} (h : s.Deframing p)
    (hd : s.dstate = .p25Nid) (hfull : s.fb.length = s.exp) : (completeP25Nid s).Deframing p := by
  have hfits := h.dstate_fits
  have hlen := h.fb_length hfull
  have hldu1 := h.ldu1_length
  have hfich := h.fich_length
  rw [hd] at hfits hlen hldu1 hfich
  exact h.enter (d := .p25Ldu1) hfits (fun _ => Nat.zero_le _) nofun (fun _ => rfl) hlen hldu1 hfich

/-- LDU1 is held: P25 goes on to LDU2 (R213). -/
theorem State.Deframing.completeP25Ldu1 {s : State} {p : Personality} (h : s.Deframing p)
    (hd : s.dstate = .p25Ldu1) (hfull : s.fb.length = s.exp) : (completeP25Ldu1 s).Deframing p := by
  have hfits := h.dstate_fits
  have hlen := h.fb_length hfull
  have hnid := h.nid_length
  have hfich := h.fich_length
  rw [hd] at hfits hlen hnid hfich
  exact h.enter (d := .p25Ldu2) hfits (fun _ => Nat.zero_le _) nofun (fun _ => rfl) hnid hlen hfich

/-- The FICH is held: YSF goes on to the voice part (R221). -/
theorem State.Deframing.completeYsfFich {s : State} {p : Personality} (h : s.Deframing p)
    (hd : s.dstate = .ysfFich) (hfull : s.fb.length = s.exp) : (completeYsfFich s).Deframing p := by
  have hfits := h.dstate_fits
  have hlen := h.fb_length hfull
  have hnid := h.nid_length
  have hldu1 := h.ldu1_length
  rw [hd] at hfits hlen hnid hldu1
  exact h.enter (d := .ysfVoice) hfits (fun _ => Nat.zero_le _) nofun (fun _ => rfl) hnid hldu1 hlen

/-- A D-STAR voice frame has three bytes of slow data after its 12 bytes (R195). -/
theorem State.Deframing.completeDstarVoice {s : State} {p : Personality} (h : s.Deframing p)
    (hd : s.dstate = .dstarVoice) (hfull : s.fb.length = s.exp) : (completeDstarVoice s).Deframing p := by
  have hfits := h.dstate_fits
  have hlen := h.fb_length hfull
  rw [hd] at hfits hlen
  obtain rfl : p = .dstar := by simpa [DState.fits] using hfits
  have hsd : ((s.fb.drop 12).take 3).length = 3 := by simp [hlen, expectedLength]
  exact ((h.sdAppend hsd).emit _).endFrame

theorem State.Deframing.completeM17Lsf {s : State} {p : Personality} (h : s.Deframing p) :
    (completeM17Lsf s).Deframing p := by
  unfold Machine.completeM17Lsf
  split
  exacts [(h.emit _).endFrame, h.endFrame]

theorem State.Deframing.completeM17Pkt {s : State} {p : Personality} (h : s.Deframing p) :
    (completeM17Pkt s).Deframing p := by
  unfold Machine.completeM17Pkt
  split
  exacts [(h.emit _).endFrame, h.endFrame]

theorem State.Deframing.complete {s : State} {p : Personality} (h : s.Deframing p)
    (hfull : s.fb.length = s.exp) : s.complete.Deframing p := by
  unfold State.complete
  cases hd : s.dstate with
  | m17Lsf => exact h.completeM17Lsf
  | m17Pkt => exact h.completeM17Pkt
  | dstarHeader | p25Ldu2 => exact (h.emit _).endFrame
  | dstarVoice => exact h.completeDstarVoice hd hfull
  | p25Nid => exact h.completeP25Nid hd hfull
  | p25Ldu1 => exact h.completeP25Ldu1 hd hfull
  | ysfFich => exact h.completeYsfFich hd hfull
  | ysfVoice => exact (h.countDraw.emit _).endFrame
  | pocsagBatch => exact (h.emitAll _).endFrame
  | idle | syncSearch | dstarSynced | dsssStream => exact h

/-! ### The loop -/

theorem State.Deframing.deframePass {s : State} {p : Personality} (h : s.Deframing p) :
    (deframePass s).state.Deframing p := by
  cases hp : Machine.deframePass s with
  | again t =>
    rcases deframePass_again hp with ⟨hd, o, k, -, rfl⟩ | ⟨hd, ht⟩ | ⟨hc, hfull, rfl⟩
    · exact (h.dropUnits o).onSync hd k
    · exact h.dstarChoose hd ht
    · exact (h.collect hc).complete hfull
  | stop t =>
    rcases deframePass_stop hp with ⟨-, -, rfl⟩ | ⟨-, -, rfl⟩ | ⟨hc, -, rfl⟩ | ⟨-, rfl⟩
    · exact h
    · exact h
    · exact h.collect hc
    · exact h

/-- RUN returns only with the part it collects incomplete (R161, R162). -/
theorem deframeRun_partial {s : State} (hc : (deframeRun s).dstate.collecting = true) :
    (deframeRun s).fb.length ≠ (deframeRun s).exp := by
  obtain ⟨u, hu⟩ := deframeRun_ends s
  rcases deframePass_stop hu with ⟨hd, -, he⟩ | ⟨hd, -, he⟩ | ⟨-, hne, he⟩ | ⟨hd, he⟩
  · rw [he, hd] at hc
    cases hc
  · rw [he, hd] at hc
    cases hc
  · rw [he]
    exact hne
  · rw [he] at hc
    rcases hd with hd | hd <;> rw [hd] at hc <;> cases hc

theorem State.ReadyFor.deframeRun {s : State} {p : Personality} (h : s.ReadyFor p) (hs : p.isSync = true) :
    (deframeRun s).ReadyFor p :=
  (deframeRun_keeps (fun t => t.Deframing p) (fun _ ht => ht.deframePass) (h.deframing hs)).readyFor
    deframeRun_partial

theorem State.ReadyFor.runProcedure {s : State} {p : Personality} (h : s.ReadyFor p) :
    s.runProcedure.ReadyFor p := by
  have hp := h.personality_eq
  cases p with
  | m17 | dstar | p25 | ysf | pocsag =>
    rw [State.runProcedure_sync hp rfl]
    exact h.deframeRun rfl
  | dsssEnc =>
    rw [State.runProcedure_dsssEnc hp]
    exact h.spreadRun
  | dsssDec =>
    rw [State.runProcedure_dsssDec hp]
    exact h.correlateRun

/-! ## Every step -/

theorem State.Inv.run {s : State} (h : s.Inv) (hl : s.lc = .ready) : s.runProcedure.Inv := by
  obtain ⟨p, hp⟩ := h.ready hl
  have hf := s.runProcedure_frame
  exact .of_readyFor (hf.code ▸ h.code_capped) (hf.lc.trans hl) (hf.errcode.trans (h.errcode_of_ready hl))
    hp.runProcedure

theorem State.Inv.push {s : State} (h : s.Inv) (hl : s.lc = .ready) (hp : s.cfg.proto ≠ 7) {u : Byte}
    (hu : s.badUnit u = false) : (s.pushUnit u).Inv := by
  obtain ⟨p, hr⟩ := h.ready hl
  exact .of_readyFor h.code_capped hl (h.errcode_of_ready hl) (hr.pushUnit hp hu)

theorem State.Inv.pushs {s : State} (h : s.Inv) (hl : s.lc = .ready) (hp : s.cfg.proto = 7) (x : Sample) :
    (s.pushSample x).Inv := by
  obtain ⟨p, hr⟩ := h.ready hl
  exact .of_readyFor h.code_capped hl (h.errcode_of_ready hl) (hr.pushSample hp x)

theorem Effect.inv {i : Instr} {s t : State} (he : Effect s i t) (h : s.Inv) : t.Inv := by
  cases he with
  | fault _ k => exact h.raise k
  | nop => exact h
  | wrcfg hl => exact h.writeCfg hl _ _
  | wrcode hl hc => exact h.appendChip hl hc _
  | construct _ hc => exact h.construct hc
  | constructFailed hl hc => exact h.constructFailed hl (checkConfig_error_ne_none hc)
  | push hl hp hu => exact h.push hl hp hu
  | pushs hl hp => exact h.pushs hl hp _
  | run hl => exact h.run hl
  | reset hl => exact h.softReset hl
  | clear => exact s.toReset_inv
  | rdreg => exact h.setRdata _

theorem runWord_inv {w : Word} {s t : State} (h : s.Inv) (hw : runWord w s = .next t) : t.Inv := by
  unfold runWord at hw
  split at hw
  · exact (effect_of_exec hw).inv h
  · cases hw
    exact h.raise _

theorem runEvent_inv {e : HostEvent} {s t : State} (h : s.Inv) (he : runEvent e s = .next t) : t.Inv := by
  cases e with
  | command w => exact runWord_inv h he
  | hardReset =>
    cases he
    exact s.toReset_inv

/-- Settles O56: a step is one event, and an event that is a command has one of its effects. -/
theorem stepKeepsTheInvariant : Obligations.StepKeepsTheInvariant := by
  unfold Obligations.StepKeepsTheInvariant
  intro s t h hstep
  unfold step runNext at hstep
  split at hstep
  · cases hstep
    exact h
  · exact runEvent_inv (h.withPort _) hstep

end Sys2Proof.Machine
end

section
/-! PROOFS. The port: what a step does with the oldest event, and what no command reaches (R70, R72, R272). -/

namespace Sys2Proof.Machine

/-! ## The event a step takes (R70, R80) -/

/-- A word that decodes runs as its command (R80). -/
theorem runWord_of_decode {w : Word} {i : Instr} (h : decode w = .ok i) (s : State) :
    runWord w s = exec i s := by
  unfold runWord
  rw [h]

/-- An illegal word raises ILLEGAL_CMD (R270). -/
theorem runWord_of_illegal {w : Word} {e : DecodeError} (h : decode w = .error e) (s : State) :
    runWord w s = .next (s.raise .illegalCmd) := by
  unfold runWord
  rw [h, raiseNext_eq]

theorem step_of_empty_port {s : State} (h : s.port = []) : step s = .next s := by
  unfold step runNext
  rw [h]

theorem step_of_event {s : State} {e : HostEvent} {rest : List HostEvent} (h : s.port = e :: rest) :
    step s = runEvent e (s.withPort rest) := by
  unfold step runNext
  rw [h]

/-- A word just placed is the next one to run, on the state it was placed in. -/
theorem step_withFetchWord (s : State) (nbits w : Nat) :
    step (s.withFetchWord nbits w) = runWord (BitVec.ofNat 32 (w % 2 ^ nbits)) s :=
  step_of_event (s := s.withFetchWord nbits w) (rest := s.port) rfl

theorem decode_of_decodeTableWord {nbits w : Nat} {i : Instr} (h : decodeTableWord nbits w = some i) :
    decode (BitVec.ofNat 32 (w % 2 ^ nbits)) = .ok i := by
  unfold decodeTableWord at h
  split at h
  · rename_i j hj
    cases h
    exact hj
  · cases h

/-- Settles O5: each clause is the event at the head of the port, run by `runEvent`. -/
theorem stepRunsTheDecodedCommand : Obligations.StepRunsTheDecodedCommand := by
  unfold Obligations.StepRunsTheDecodedCommand
  refine ⟨fun s w rest i hport hdec => ?_, fun s w i hdec => ?_, fun s w rest hport => step_of_event hport,
    fun s rest hport => step_of_event hport⟩
  · exact (step_of_event hport).trans (runWord_of_decode hdec _)
  · exact (step_withFetchWord s 32 w).trans (runWord_of_decode (decode_of_decodeTableWord hdec) s)

/-! ## What no event reaches -/

/-- The fields that are no part of the channel of the spec and that no event changes: what is left at the port, the
parameters, and the channel's number (log entries 1 to 3). -/
structure State.SameOutside (s t : State) : Prop where
  port : t.port = s.port
  params : t.params = s.params
  channel : t.channel = s.channel

theorem State.RunFrame.sameOutside {s t : State} (h : s.RunFrame t) : s.SameOutside t := { h with }

theorem Effect.sameOutside {i : Instr} {s t : State} (h : Effect s i t) : s.SameOutside t := by
  cases h with
  | run => exact s.runProcedure_frame.sameOutside
  | fault | nop | wrcfg | wrcode | construct | constructFailed | push | pushs | reset | clear | rdreg =>
    exact ⟨rfl, rfl, rfl⟩

/-- Every word completes, the illegal ones included (R272). -/
theorem runWord_completes (w : Word) (s : State) : ∃ t, runWord w s = .next t ∧ s.SameOutside t := by
  cases hdec : decode w with
  | ok i =>
    obtain ⟨t, ht, heff⟩ := exec_effect i s
    exact ⟨t, (runWord_of_decode hdec s).trans ht, heff.sameOutside⟩
  | error e => exact ⟨_, runWord_of_illegal hdec s, rfl, rfl, rfl⟩

theorem runEvent_completes (e : HostEvent) (s : State) : ∃ t, runEvent e s = .next t ∧ s.SameOutside t := by
  cases e with
  | command w => exact runWord_completes w s
  | hardReset => exact ⟨s.hardReset, rfl, rfl, rfl, rfl⟩

/-- Settles O7: the port gives up its head, and the event taken from it leaves the rest alone. -/
theorem everyStepTakesOneEvent : Obligations.EveryStepTakesOneEvent := by
  unfold Obligations.EveryStepTakesOneEvent
  intro s
  cases hport : s.port with
  | nil => exact ⟨s, step_of_empty_port hport, hport, rfl, rfl⟩
  | cons e rest =>
    obtain ⟨t, ht, hout⟩ := runEvent_completes e (s.withPort rest)
    exact ⟨t, (step_of_event hport).trans ht, hout.port, hout.params, hout.channel⟩

/-! ## A system of channels (R72, R285) -/

theorem systemStep_of_next {k : Nat} {sys : System} {s t : State} (hs : sys[k]? = some s)
    (ht : step s = .next t) : systemStep k sys = .next (sys.set k t) := by
  unfold systemStep
  simp only [hs, ht]

theorem systemReset_getElem? {k : Nat} (h : k < Config.numChannels) :
    systemReset[k]? = some (State.resetOf k) := by
  rw [systemReset, List.getElem?_map, List.getElem?_range h, Option.map_some]

/-- Settles O57: a step of channel `k` is `List.set` at place `k`. -/
theorem channelsAreIndependent : Obligations.ChannelsAreIndependent := by
  unfold Obligations.ChannelsAreIndependent
  refine ⟨fun k hk => systemReset_getElem? hk, fun k sys s t hs ht => ?_⟩
  have hk : k < sys.length := (List.getElem?_eq_some_iff.mp hs).1
  exact ⟨sys.set k t, systemStep_of_next hs ht, List.length_set, List.getElem?_set_self hk,
    fun j hj => List.getElem?_set_ne hj.symm⟩

end Sys2Proof.Machine
end

section
/-! PROOFS. What RUN emits (R66, R71). -/

namespace Sys2Proof.Machine

/-! ## Emission -/

/-- From `s` to `t` some records were appended to OUT and OUT_COUNT counted them, modulo 2^24 (R66). -/
def State.Emitted (s t : State) : Prop :=
  ∃ recs, t.out = s.out ++ recs ∧ t.outCount = s.outCount + BitVec.ofNat 24 recs.length

/-- A change that reaches neither OUT nor its count emits nothing. -/
theorem State.Emitted.of_eq {s t : State} (hout : t.out = s.out) (hcount : t.outCount = s.outCount) :
    s.Emitted t :=
  ⟨[], by rw [hout, List.append_nil], hcount.trans (BitVec.add_zero _).symm⟩

theorem State.Emitted.refl (s : State) : s.Emitted s := .of_eq rfl rfl

theorem State.Emitted.trans {s t u : State} (h : s.Emitted t) (g : t.Emitted u) : s.Emitted u := by
  obtain ⟨xs, hout, hcount⟩ := h
  obtain ⟨ys, gout, gcount⟩ := g
  refine ⟨xs ++ ys, ?_, ?_⟩
  · rw [gout, hout, List.append_assoc]
  · rw [gcount, hcount, List.length_append, BitVec.ofNat_add, BitVec.add_assoc]

theorem State.Emitted.emitAll {s t : State} (h : s.Emitted t) (rs : List Record) : s.Emitted (t.emitAll rs) :=
  h.trans ⟨rs, by rw [State.emitAll_eq], by rw [State.emitAll_eq]⟩

theorem State.Emitted.emit {s t : State} (h : s.Emitted t) (r : Record) : s.Emitted (t.emit r) :=
  h.emitAll [r]

theorem State.Emitted.endFrame {s t : State} (h : s.Emitted t) : s.Emitted t.endFrame :=
  h.trans (.of_eq rfl rfl)

/-! ## The deframers -/

theorem onSyncM17_emitted (p : Nat) (s : State) : s.Emitted (onSyncM17 p s) := by
  unfold onSyncM17
  split
  exacts [.of_eq rfl rfl, .of_eq rfl rfl]

/-- A sync found emits nothing (R146). -/
theorem State.onSync_emitted (p : Nat) (s : State) : s.Emitted (s.onSync p) := by
  unfold State.onSync
  cases s.personality with
  | none => exact .refl s
  | some q =>
    cases q with
    | m17 => exact onSyncM17_emitted p s
    | dstar | p25 | ysf | pocsag | dsssEnc | dsssDec => exact .of_eq rfl rfl

theorem completeM17Lsf_emitted (s : State) : s.Emitted (completeM17Lsf s) := by
  unfold completeM17Lsf
  split
  exacts [((State.Emitted.refl s).emit _).endFrame, (State.Emitted.refl s).endFrame]

theorem completeM17Pkt_emitted (s : State) : s.Emitted (completeM17Pkt s) := by
  unfold completeM17Pkt
  split
  exacts [((State.Emitted.refl s).emit _).endFrame, (State.Emitted.refl s).endFrame]

/-- A complete part emits its records, or none (R162). -/
theorem State.complete_emitted (s : State) : s.Emitted s.complete := by
  have hs := State.Emitted.refl s
  unfold State.complete
  cases s.dstate with
  | m17Lsf => exact completeM17Lsf_emitted s
  | m17Pkt => exact completeM17Pkt_emitted s
  | dstarHeader | p25Ldu2 => exact (hs.emit _).endFrame
  | dstarVoice | ysfVoice => exact (State.Emitted.emit (.of_eq rfl rfl) _).endFrame
  | pocsagBatch => exact (hs.emitAll _).endFrame
  | p25Nid | p25Ldu1 | ysfFich | idle | syncSearch | dstarSynced | dsssStream => exact .of_eq rfl rfl

theorem State.dstarChoose_emitted {s t : State} (h : s.dstarChoose = some t) : s.Emitted t := by
  rcases s.dstarChoose_cases with ⟨-, hc⟩ | ⟨-, -, hc⟩ | ⟨-, hc⟩ <;> rw [hc] at h <;> cases h
  exacts [.of_eq rfl rfl, .of_eq rfl rfl]

theorem State.collect_emitted (s : State) : s.Emitted s.collect := .of_eq rfl rfl

theorem deframePass_emitted (s : State) : s.Emitted (deframePass s).state := by
  cases hp : deframePass s with
  | again t =>
    rcases deframePass_again hp with ⟨-, o, p, -, rfl⟩ | ⟨-, ht⟩ | ⟨-, -, rfl⟩
    · exact State.Emitted.trans (t := s.dropUnits o) (.of_eq rfl rfl) (State.onSync_emitted p _)
    · exact State.dstarChoose_emitted ht
    · exact s.collect_emitted.trans s.collect.complete_emitted
  | stop t =>
    rcases deframePass_stop hp with ⟨-, -, rfl⟩ | ⟨-, -, rfl⟩ | ⟨-, -, rfl⟩ | ⟨-, rfl⟩
    exacts [.refl _, .refl _, s.collect_emitted, .refl _]

theorem deframeRun_emitted (s : State) : s.Emitted (deframeRun s) :=
  deframeRun_keeps (fun t => s.Emitted t) (fun t h => h.trans (deframePass_emitted t)) (.refl s)

/-! ## RUN and the other commands -/

theorem State.runProcedure_emitted (s : State) : s.Emitted s.runProcedure := by
  unfold State.runProcedure
  cases s.personality with
  | none => exact .refl s
  | some p =>
    cases p with
    | m17 | dstar | p25 | ysf | pocsag => exact deframeRun_emitted s
    | dsssEnc => exact ((State.Emitted.refl s).emitAll _).trans (.of_eq rfl rfl)
    | dsssDec => exact ((State.Emitted.refl s).emitAll _).trans (.of_eq rfl rfl)

/-- No command but RUN appends to OUT; CLEAR and RESET keep what is there (R71). -/
theorem Effect.out_eq {i : Instr} {s t : State} (h : Effect s i t) (hi : i ≠ .run) : t.out = s.out := by
  cases h with
  | run => exact absurd rfl hi
  | fault | nop | wrcfg | wrcode | construct | constructFailed | push | pushs | reset | clear | rdreg => rfl

theorem Effect.emitted_of_run {s t : State} (h : Effect s .run t) : s.Emitted t := by
  cases h with
  | fault => exact .of_eq rfl rfl
  | run => exact s.runProcedure_emitted

/-- Settles O27, by the effect of the command. -/
theorem onlyRunEmits : Obligations.OnlyRunEmits := by
  unfold Obligations.OnlyRunEmits
  intro i s t h
  have heff := effect_of_exec h
  by_cases hi : i = .run
  · subst hi
    obtain ⟨recs, hout, hcount⟩ := heff.emitted_of_run
    exact ⟨recs, hout, fun hne => absurd rfl hne, fun _ => hcount⟩
  · exact ⟨[], by rw [heff.out_eq hi, List.append_nil], fun _ => rfl, fun hrun => absurd hrun hi⟩

end Sys2Proof.Machine
end

section
/-! PROOFS. The input commands and the cap rule of IB and SB, for one unit and for any number (R62, R63). -/

namespace Sys2Proof.Machine

open Sys2Proof.Claims

/-! ## PUSH and PUSHS (R116, R117) -/

theorem execPush_of_disallowed {u : Byte} {s : State} (h : s.lc ≠ .ready ∨ s.cfg.proto = 7) :
    execPush u s = .next (s.raise .seqErr) := by
  rcases execPush_cases u s with ⟨-, he⟩ | ⟨hl, hp, -, -⟩ | ⟨hl, hp, -, -⟩
  · exact he
  · exact absurd (h.resolve_left (not_not_intro hl)) hp
  · exact absurd (h.resolve_left (not_not_intro hl)) hp

theorem execPush_of_badUnit {u : Byte} {s : State} (hl : s.lc = .ready) (hp : s.cfg.proto ≠ 7)
    (hu : s.badUnit u = true) : execPush u s = .next (s.raise .inputErr) := by
  rcases execPush_cases u s with ⟨h, -⟩ | ⟨-, -, -, he⟩ | ⟨-, -, hgood, -⟩
  · exact absurd (h.resolve_left (not_not_intro hl)) hp
  · exact he
  · exact absurd (hu.symm.trans hgood) (by decide)

theorem execPush_of_goodUnit {u : Byte} {s : State} (hl : s.lc = .ready) (hp : s.cfg.proto ≠ 7)
    (hu : s.badUnit u = false) : execPush u s = .next (s.pushUnit u) := by
  rcases execPush_cases u s with ⟨h, -⟩ | ⟨-, -, hbad, -⟩ | ⟨-, -, -, he⟩
  · exact absurd (h.resolve_left (not_not_intro hl)) hp
  · exact absurd (hu.symm.trans hbad) (by decide)
  · exact he

theorem execPushs_of_disallowed {i q : BitVec 12} {s : State} (h : s.lc ≠ .ready ∨ s.cfg.proto ≠ 7) :
    execPushs i q s = .next (s.raise .seqErr) := by
  rcases execPushs_cases i q s with ⟨-, he⟩ | ⟨hl, hp, -⟩
  · exact he
  · exact absurd hp (h.resolve_left (not_not_intro hl))

theorem execPushs_of_allowed {i q : BitVec 12} {s : State} (hl : s.lc = .ready) (hp : s.cfg.proto = 7) :
    execPushs i q s = .next (s.pushSample ⟨i, q⟩) := by
  rcases execPushs_cases i q s with ⟨h, -⟩ | ⟨-, -, he⟩
  · exact absurd hp (h.resolve_left (not_not_intro hl))
  · exact he

/-- A unit is good unless it is above 1 in a bit personality, PROTO 5 or 6 (R273). -/
theorem State.badUnit_eq_false {s : State} {u : Byte} (h : s.cfg.proto = 5 ∨ s.cfg.proto = 6 → u.toNat ≤ 1) :
    s.badUnit u = false := by
  rw [Bool.eq_false_iff, ne_eq, State.badUnit_iff_proto]
  exact fun ⟨hp, hu⟩ => absurd (h hp) (Nat.not_le_of_lt hu)

/-- Settles O23: the checks of PUSH in their order, by the lifecycle, PROTO and the unit. -/
theorem pushAppendsUnderTheCap : Obligations.PushAppendsUnderTheCap := by
  unfold Obligations.PushAppendsUnderTheCap
  intro u s
  refine ⟨fun h => execPush_of_disallowed h, fun hl hp hu => ?_, fun hl hp hu => ?_⟩
  · have hp7 : s.cfg.proto ≠ 7 := by rcases hp with hp | hp <;> rw [hp] <;> decide
    exact execPush_of_badUnit hl hp7 ((s.badUnit_iff_proto u).mpr ⟨hp, hu⟩)
  · exact execPush_of_goodUnit hl hp (State.badUnit_eq_false hu)

/-- Settles O24: the one check of PUSHS, by the lifecycle and PROTO. -/
theorem pushsAppendsUnderTheCap : Obligations.PushsAppendsUnderTheCap := by
  unfold Obligations.PushsAppendsUnderTheCap
  exact fun i q s => ⟨fun h => execPushs_of_disallowed h, fun hl hp => execPushs_of_allowed hl hp⟩

/-! ## The words of the input commands (R81, R82) -/

/-- The bits of a word by its fields: IMM below 24, R from 24, OP from 28 (R80). -/
theorem formatF0_getLsbD (op r : BitVec 4) (imm : BitVec 24) (j : Nat) :
    (formatF0 op r imm).getLsbD j =
      if j < 24 then imm.getLsbD j else if j < 28 then r.getLsbD (j - 24) else op.getLsbD (j - 28) := by
  refine (BitVec.getLsbD_append (x := op ++ r) (y := imm) (i := j)).trans ?_
  rw [BitVec.getLsbD_append]
  by_cases h : j < 24
  · rw [if_pos h, if_pos h]
  · have hr : j - 24 < 4 ↔ j < 28 := by omega
    rw [if_neg h, if_neg h, Nat.sub_sub]
    simp only [hr]

theorem opField_formatF0 (op r : BitVec 4) (imm : BitVec 24) : opField (formatF0 op r imm) = op := by
  ext j hj
  rw [opField, BitVec.getElem_extractLsb', formatF0_getLsbD, if_neg (by omega), if_neg (by omega),
    Nat.add_sub_cancel_left, BitVec.getLsbD_eq_getElem]

theorem regField_formatF0 (op r : BitVec 4) (imm : BitVec 24) : regField (formatF0 op r imm) = r := by
  ext j hj
  rw [regField, BitVec.getElem_extractLsb', formatF0_getLsbD, if_neg (by omega), if_pos (by omega),
    Nat.add_sub_cancel_left, BitVec.getLsbD_eq_getElem]

theorem immHigh_formatF0 (op r : BitVec 4) (u : Byte) : immHigh (formatF0 op r (u.setWidth 24)) = 0 := by
  ext j hj
  rw [immHigh, BitVec.getElem_extractLsb', formatF0_getLsbD, if_pos (by omega)]
  simp

theorem immByte_formatF0 (op r : BitVec 4) (u : Byte) : immByte (formatF0 op r (u.setWidth 24)) = u := by
  ext j hj
  rw [immByte, BitVec.getElem_extractLsb', formatF0_getLsbD, if_pos (by omega), Nat.zero_add,
    BitVec.getLsbD_setWidth, decide_eq_true (by omega), Bool.true_and, BitVec.getLsbD_eq_getElem]

theorem immI_formatF0 (op r : BitVec 4) (i q : BitVec 12) :
    immI (formatF0 op r (i ++ q : BitVec (12 + 12))) = i := by
  ext j hj
  rw [immI, BitVec.getElem_extractLsb', formatF0_getLsbD, if_pos (by omega), BitVec.getLsbD_append,
    if_neg (by omega), Nat.add_sub_cancel_left, BitVec.getLsbD_eq_getElem]

theorem immQ_formatF0 (op r : BitVec 4) (i q : BitVec 12) :
    immQ (formatF0 op r (i ++ q : BitVec (12 + 12))) = q := by
  ext j hj
  rw [immQ, BitVec.getElem_extractLsb', formatF0_getLsbD, if_pos (by omega), Nat.zero_add,
    BitVec.getLsbD_append, if_pos hj, BitVec.getLsbD_eq_getElem]

theorem decode_encode_push (u : Byte) : decode (encode (.push u)) = .ok (.push u) := by
  unfold decode
  simp [encode, opField_formatF0, regField_formatF0, immHigh_formatF0, immByte_formatF0, requireZero]

theorem decode_encode_pushs (i q : BitVec 12) : decode (encode (.pushs i q)) = .ok (.pushs i q) := by
  unfold decode
  simp [encode, opField_formatF0, regField_formatF0, immI_formatF0, immQ_formatF0, requireZero]

/-! ## Runs of input commands (R297, R298) -/

theorem runWords_cons_of_next {w : Word} {ws : List Word} {s t : State} (h : runWord w s = .next t) :
    runWords (w :: ws) s = runWords ws t := by
  rw [runWords, h]

/-- PUSHes of good units fold the capped append over IB. -/
theorem runWords_pushWords {us : List Byte} {s : State} (hl : s.lc = .ready) (hp : s.cfg.proto ≠ 7)
    (hus : ∀ u ∈ us, s.badUnit u = false) :
    runWords (pushWords us) s = .next { s with ib := us.foldl (capAppend s.cfg.bufcap.toNat) s.ib } := by
  induction us generalizing s with
  | nil => rfl
  | cons u us ih =>
    obtain ⟨hu, hus⟩ := List.forall_mem_cons.mp hus
    have hpush : runWord (encode (.push u)) s = .next (s.pushUnit u) :=
      (runWord_of_decode (decode_encode_push u) s).trans (execPush_of_goodUnit hl hp hu)
    exact (runWords_cons_of_next hpush).trans (ih (s := s.pushUnit u) hl hp hus)

/-- PUSHSes fold the capped append over SB. -/
theorem runWords_pushsWords {xs : List Sample} {s : State} (hl : s.lc = .ready) (hp : s.cfg.proto = 7) :
    runWords (pushsWords xs) s = .next { s with sb := xs.foldl (capAppend s.cfg.bufcap.toNat) s.sb } := by
  induction xs generalizing s with
  | nil => rfl
  | cons x xs ih =>
    have hpush : runWord (encode (.pushs x.i x.q)) s = .next (s.pushSample x) :=
      (runWord_of_decode (decode_encode_pushs x.i x.q) s).trans (execPushs_of_allowed hl hp)
    exact (runWords_cons_of_next hpush).trans (ih (s := s.pushSample x) hl hp)

/-! ## Appends under the cap -/

/-- One append keeps the newest `cap` elements. -/
theorem capAppend_eq_drop {α : Type} {cap : Nat} {buf : List α} (x : α) (hcap : 1 ≤ cap)
    (h : buf.length ≤ cap) : capAppend cap buf x = (buf ++ [x]).drop (buf.length + 1 - cap) := by
  rcases Nat.lt_or_eq_of_le h with hlt | heq
  · rw [capAppend_of_lt x hlt, Nat.sub_eq_zero_of_le hlt, List.drop_zero]
  · rw [capAppend_of_eq x heq, heq, Nat.add_sub_cancel_left, List.drop_append_of_le_length (heq ▸ hcap)]

/-- Any number of appends keeps the newest `cap` elements (R62, R63). -/
theorem foldl_capAppend {α : Type} {cap : Nat} {buf : List α} (xs : List α) (hcap : 1 ≤ cap)
    (h : buf.length ≤ cap) :
    xs.foldl (capAppend cap) buf = (buf ++ xs).drop (buf.length + xs.length - cap) := by
  induction xs generalizing buf with
  | nil => simp [Nat.sub_eq_zero_of_le h]
  | cons x xs ih =>
    have hdrop : buf.length + 1 - cap ≤ (buf ++ [x]).length := by simp
    rw [List.foldl_cons, ih (capAppend_length_le x hcap h), capAppend_eq_drop x hcap h,
      ← List.drop_append_of_le_length hdrop, List.drop_drop, List.append_assoc, List.singleton_append,
      List.length_drop, List.length_append, List.length_singleton, List.length_cons]
    congr 1
    omega

/-- Settles O25: a run of pushes folds the append under the cap, which keeps the newest elements. -/
theorem bufferKeepsTheNewestUnits : Obligations.BufferKeepsTheNewestUnits := by
  unfold Obligations.BufferKeepsTheNewestUnits
  refine ⟨fun us s hl _ hp hbits hcap hlen => ?_, fun xs s hl hp hcap hlen => ?_⟩
  · have hp7 : s.cfg.proto ≠ 7 := by
      intro h7
      rw [h7] at hp
      exact absurd hp (by decide)
    have hgood : ∀ u ∈ us, s.badUnit u = false := fun u hu =>
      State.badUnit_eq_false fun hp => by rcases hbits hp u hu with rfl | rfl <;> decide
    rw [runWords_pushWords hl hp7 hgood, foldl_capAppend us hcap hlen]
  · rw [runWords_pushsWords hl hp, foldl_capAppend xs hcap hlen]

end Sys2Proof.Machine
end

section
/-! PROOFS. The words of the commands: the fields of a word and back, the round trip of decoder and encoder, the
worked words, and WRCFG (R80 to R88, R111). -/

namespace Sys2Proof.Machine

open Sys2Proof.Claims

/-! ## The fields of a word (R80) -/

theorem immField_formatF0 (op r : BitVec 4) (imm : BitVec 24) : immField (formatF0 op r imm) = imm := by
  ext j hj
  rw [immField, BitVec.getElem_extractLsb', formatF0_getLsbD, Nat.zero_add, if_pos hj, BitVec.getLsbD_eq_getElem]

/-- A word is its three fields: no bit lies outside them. -/
theorem formatF0_fields (w : Word) : formatF0 (opField w) (regField w) (immField w) = w := by
  refine BitVec.eq_of_getLsbD_eq fun j hj => ?_
  rw [formatF0_getLsbD]
  simp only [opField, regField, immField, BitVec.getLsbD_extractLsb']
  by_cases himm : j < 24
  · simp [himm]
  · by_cases hreg : j < 28
    · simp [himm, hreg, show j - 24 < 4 by omega, show 24 + (j - 24) = j by omega]
    · simp [himm, hreg, show j - 28 < 4 by omega, show 28 + (j - 28) = j by omega]

/-- A word by the values of its fields. -/
theorem formatF0_eq_of_fields {w : Word} {op r : BitVec 4} {imm : BitVec 24} (hop : (opField w).toNat = op.toNat)
    (hr : regField w = r) (himm : immField w = imm) : formatF0 op r imm = w := by
  rw [← BitVec.eq_of_toNat_eq hop, ← hr, ← himm, formatF0_fields]

/-- IMM is the byte IMM[7:0] when IMM[23:8] is 0 (R84). -/
theorem immByte_setWidth {w : Word} (h : immHigh w = 0) : (immByte w).setWidth 24 = immField w := by
  have hhigh (j : Nat) (hj : j < 16) : w.getLsbD (8 + j) = false := by
    have := congrArg (·.getLsbD j) h
    simpa [immHigh, hj] using this
  ext j hj
  by_cases hlow : j < 8
  · simp [immByte, immField, hlow]
  · have := hhigh (j - 8) (by omega)
    rw [show 8 + (j - 8) = j by omega] at this
    simp [immByte, immField, hlow, this]

/-- IMM is the two components of PUSHS (R81). -/
theorem immI_append_immQ (w : Word) : (immI w ++ immQ w : BitVec (12 + 12)) = immField w := by
  refine BitVec.eq_of_getLsbD_eq fun j hj => ?_
  rw [BitVec.getLsbD_append]
  simp only [immI, immQ, immField, BitVec.getLsbD_extractLsb']
  by_cases hq : j < 12
  · simp [hq, hj]
  · simp [hq, hj, show j - 12 < 12 by omega, show 12 + (j - 12) = j by omega]

/-! ## Decoder and encoder (R82) -/

theorem requireZero_eq_ok {zero : Bool} {op : BitVec 4} {i j : Instr} :
    requireZero zero op i = .ok j ↔ zero = true ∧ i = j := by
  cases zero <;> simp [requireZero]

/-- A row with two fields that must be 0 (R84). -/
theorem requireZero_and_eq_ok {m n : Nat} {a : BitVec m} {b : BitVec n} {op : BitVec 4} {i j : Instr} :
    requireZero (a == 0 && b == 0) op i = .ok j ↔ a = 0 ∧ b = 0 ∧ i = j := by
  simp [requireZero_eq_ok, and_assoc]

/-- Settles O1, command by command: each operand is read back from the field it was written to. -/
theorem decodeOfEncodeIsTheCommand : Obligations.DecodeOfEncodeIsTheCommand := by
  unfold Obligations.DecodeOfEncodeIsTheCommand
  intro i hi
  cases i with
  | nop | construct | run | reset | clear => rfl
  | wrcfg r v =>
    have hr : r.toNat ≤ lastCfgIndex := of_decide_eq_true hi
    unfold decode
    simp [encode, opField_formatF0, regField_formatF0, immField_formatF0, hr]
  | wrcode c =>
    unfold decode
    simp [encode, opField_formatF0, regField_formatF0, immHigh_formatF0, immByte_formatF0, requireZero]
  | push u => exact decode_encode_push u
  | pushs i q => exact decode_encode_pushs i q
  | rdreg r =>
    have hr : r.toNat ≤ lastRegIndex := of_decide_eq_true hi
    unfold decode
    simp [encode, opField_formatF0, regField_formatF0, immField_formatF0, hr]

/-- Settles O2, row by row of the opcode map: the fields that must be 0 and the operands make up the whole word. -/
theorem decodedWordIsTheEncoding : Obligations.DecodedWordIsTheEncoding := by
  unfold Obligations.DecodedWordIsTheEncoding
  intro w i h
  unfold decode at h
  split at h
  -- NOP, CONSTRUCT, RUN, RESET, CLEAR
  case h_1 hop | h_4 hop | h_7 hop | h_8 hop | h_9 hop =>
    obtain ⟨hr, himm, rfl⟩ := requireZero_and_eq_ok.mp h
    exact ⟨rfl, formatF0_eq_of_fields hop hr himm⟩
  -- WRCODE, PUSH
  case h_3 hop | h_5 hop =>
    obtain ⟨hr, hhigh, rfl⟩ := requireZero_and_eq_ok.mp h
    exact ⟨rfl, formatF0_eq_of_fields hop hr (immByte_setWidth hhigh).symm⟩
  -- PUSHS
  case h_6 hop =>
    obtain ⟨hr, rfl⟩ := requireZero_eq_ok.mp h
    exact ⟨rfl, formatF0_eq_of_fields hop (eq_of_beq hr) (immI_append_immQ w).symm⟩
  -- WRCFG
  case h_2 hop =>
    split at h
    case isTrue hr =>
      cases h
      exact ⟨decide_eq_true hr, formatF0_eq_of_fields hop rfl rfl⟩
    case isFalse => cases h
  -- RDREG
  case h_10 hop =>
    split at h
    case isTrue himm =>
      split at h
      case isTrue hr =>
        cases h
        exact ⟨decide_eq_true hr, formatF0_eq_of_fields hop rfl (eq_of_beq himm)⟩
      case isFalse => cases h
    case isFalse => cases h
  -- the reserved opcodes (R83)
  case h_11 => cases h

/-! ## Worked words -/

/-- Settles O3, by running the decoder on each word. -/
theorem workedEncodingsDecode : Obligations.WorkedEncodingsDecode := by
  unfold Obligations.WorkedEncodingsDecode
  exact ⟨rfl, rfl, rfl, rfl, rfl, rfl, rfl, rfl, rfl⟩

/-- A program assembles to the words of its first line's commands, then the words of the rest. -/
theorem assemble_cons {line : List Char} {lines : List (List Char)} {is : List Instr} {ws : List Word}
    (hline : assembleLine line = some is) (hlines : assemble lines = some ws) :
    assemble (line :: lines) = some (is.map encode ++ ws) := by
  obtain ⟨iss, hiss, rfl⟩ := Option.map_eq_some_iff.mp hlines
  simp [assemble, allSome, hline, hiss]

/-- Settles O4: the commands of each line, and their words. -/
theorem assemblerWritesTheWorkedWords : Obligations.AssemblerWritesTheWorkedWords := by
  unfold Obligations.AssemblerWritesTheWorkedWords
  refine ⟨?_, by decide, by decide⟩
  exact assemble_cons (is := [.wrcfg 0 4]) (by decide) <|
    assemble_cons (is := [.wrcfg 1 0x8000]) (by decide) <|
    assemble_cons (is := [.pushs (-100) 5]) (by decide) <|
    assemble_cons (is := [.pushs 2047 (-2048)]) (by decide) <|
    assemble_cons (is := [.rdreg 12]) (by decide) <|
    assemble_cons (is := [.push 0xD4, .push 0x71, .run]) (by decide) <|
    assemble_cons (is := [.push 1, .push 0, .push 1]) (by decide) <|
    assemble_cons (is := [.wrcode 1, .wrcode 0]) (by decide) <|
    assemble_cons (is := [.push 7, .push 7]) (by decide) rfl

/-! ## WRCFG (R111) -/

/-- The written register holds the value and every other one what it held. -/
theorem cfgReg_write {k n : Nat} (hk : k ≤ 5) (hn : n ≤ 5) (v : Reg) (c : Cfg) :
    cfgReg (c.write k v) n = if n = k then v else cfgReg c n := by
  interval_cases k <;> interval_cases n <;> rfl

/-- Settles O13: the checks of WRCFG in their order, then what the write does to each register. -/
theorem wrcfgStoresTheValue : Obligations.WrcfgStoresTheValue := by
  unfold Obligations.WrcfgStoresTheValue
  intro r v s
  rcases execWrcfg_cases r v s with ⟨hbad, he⟩ | ⟨hr, hl, he⟩ | ⟨hr, hl, he⟩
  · exact ⟨fun _ => he, fun hr => by omega, fun hr => by omega⟩
  · exact ⟨fun hbad => by omega, fun _ _ => he, fun _ hl' => absurd hl hl'⟩
  · exact ⟨fun hbad => by omega, fun _ hl' => absurd hl' hl,
      fun _ _ => ⟨s.cfg.write r.toNat v, he, fun n hn => cfgReg_write hr hn v s.cfg⟩⟩

end Sys2Proof.Machine
end

section
/-! PROOFS. The commands that take no operand: the check a failed CONSTRUCT names (R114, R115), NOP and RESET (R110,
R119), and what RUN leaves alone, where it ends, and what it does with no input (R118, R168). -/

namespace Sys2Proof.Machine

open Sys2Proof.Claims

/-! ## The first check that fails (R114) -/

/-- What an answer of CONSTRUCT's checks says of the table: every check holds, or ERRCODE is the number of the first
that does not. -/
def AnswersTheChecks (s : State) : Except ErrCode Personality → Prop
  | .ok _ => ∀ k, checkHolds k s
  | .error e => (∀ j, j < e.code → checkHolds j s) ∧ ¬ checkHolds e.code s

/-- One check of the chain: it is the first to fail, or the checks after it give the answer. -/
theorem AnswersTheChecks.check {s : State} {passes : Bool} {e : ErrCode} {rest : Except ErrCode Personality}
    (hiff : passes = true ↔ checkHolds e.code s) (hbefore : ∀ j, j < e.code → checkHolds j s)
    (hrest : (∀ j, j < e.code + 1 → checkHolds j s) → AnswersTheChecks s rest) :
    AnswersTheChecks s (if !passes then .error e else rest) := by
  cases passes with
  | false => exact ⟨hbefore, fun h => absurd (hiff.mpr h) Bool.false_ne_true⟩
  | true => exact hrest (Nat.forall_lt_succ_right.mpr ⟨hbefore, hiff.mp rfl⟩)

/-- The table numbers its checks from 1 to 9. -/
theorem checkHolds_of_first_nine {s : State} (h : ∀ j, j < 10 → checkHolds j s) (k : Nat) : checkHolds k s :=
  match k with
  | 0 | 1 | 2 | 3 | 4 | 5 | 6 | 7 | 8 | 9 => h _ (by decide)
  | _ + 10 => trivial

/-- CONSTRUCT's checks answer for the table, in its order. -/
theorem checkConfig_answersTheChecks (s : State) : AnswersTheChecks s (checkConfig s.cfg s.code) := by
  have hzero : ∀ j, j < 1 → checkHolds j s := fun j hj => by
    obtain rfl := Nat.lt_one_iff.mp hj
    trivial
  have hproto := personalityOf_isSome s.cfg.proto
  unfold checkConfig
  cases hp : personalityOf s.cfg.proto with
  | none =>
    rw [hp] at hproto
    exact ⟨hzero, fun h => absurd (hproto.mpr h) Bool.false_ne_true⟩
  | some p =>
    rw [hp] at hproto
    have hone : ∀ j, j < 2 → checkHolds j s := Nat.forall_lt_succ_right.mpr ⟨hzero, hproto.mp rfl⟩
    exact .check (checkThresh_iff hp) hone fun h => .check (checkBufcap_iff hp) h fun h =>
      .check (checkM17Maxlen_iff hp) h fun h => .check (checkBaud_iff hp) h fun h =>
      .check (checkCodeNonempty_iff hp) h fun h => .check (checkChips_iff hp) h fun h =>
      .check (checkSps_iff hp) h fun h => .check (checkSymbol_iff hp) h checkHolds_of_first_nine

/-- A failed CONSTRUCT shows in STATUS (R30, R115). -/
theorem State.constructFailed_status (s : State) (e : ErrCode) :
    (s.constructFailed e).status.getLsbD 0 = false ∧ (s.constructFailed e).status.getLsbD 1 = true := by
  refine ⟨?_, (State.status_cfgError_bit _).mpr rfl⟩
  rw [Bool.eq_false_iff, ne_eq, State.status_ready_bit]
  exact nofun

/-- Settles O16: the check the answer names and the given one are both the first to fail, so they are the same. -/
theorem constructFailsAtTheFirstCheck : Obligations.ConstructFailsAtTheFirstCheck := by
  unfold Obligations.ConstructFailsAtTheFirstCheck
  intro s k hl hbefore hk
  have hanswer := checkConfig_answersTheChecks s
  rcases execConstruct_cases s with ⟨hl', -⟩ | ⟨-, p, hc, -⟩ | ⟨-, e, hc, he⟩
  · exact absurd hl' hl
  · rw [hc] at hanswer
    exact absurd (hanswer k) hk
  · rw [hc] at hanswer
    obtain ⟨hbefore', hfails⟩ := hanswer
    obtain rfl : k = e.code := Nat.le_antisymm (Nat.le_of_not_lt fun h => hfails (hbefore _ h))
      (Nat.le_of_not_lt fun h => hk (hbefore' _ h))
    exact ⟨s.constructFailed e, e, he, errCodes_getElem_code e, rfl, s.constructFailed_status e⟩

/-! ## NOP and RESET (R110, R119) -/

/-- Settles O12: the meaning of NOP is the state it is given. -/
theorem nopChangesNothing : Obligations.NopChangesNothing := by
  unfold Obligations.NopChangesNothing
  exact fun s => rfl

theorem State.resetTarget_of_personality {s : State} {p : Personality} (hp : s.personality = some p) :
    s.resetTarget = p.startState := by
  rw [State.resetTarget, hp]

/-- Settles O10: with a PROTO of 1 to 7 the target of RESET is the start state of the personality selected. -/
theorem softResetRestartsTheData : Obligations.SoftResetRestartsTheData := by
  unfold Obligations.SoftResetRestartsTheData
  refine ⟨fun s hl h1 h7 => ?_, fun s hl => ?_⟩
  · obtain ⟨p, hp⟩ := Option.isSome_iff_exists.mp ((personalityOf_isSome s.cfg.proto).mpr ⟨h1, h7⟩)
    rcases execReset_cases s with ⟨-, he⟩ | ⟨hl', -⟩
    · rw [personalityOf_eq_some hp, ← p.startState_eq, ← State.resetTarget_of_personality hp]
      exact he
    · exact absurd hl hl'
  · rcases execReset_cases s with ⟨hl', -⟩ | ⟨-, he⟩
    exacts [absurd hl' hl, he]

/-! ## RUN by the lifecycle (R118, R276) -/

theorem execRun_of_ready {s : State} (hl : s.lc = .ready) : execRun s = .next s.runProcedure := by
  rcases execRun_cases s with ⟨-, he⟩ | ⟨hl', -⟩
  exacts [he, absurd hl hl']

theorem execRun_of_notReady {s : State} (hl : s.lc ≠ .ready) : execRun s = .next (s.raise .seqErr) := by
  rcases execRun_cases s with ⟨hl', -⟩ | ⟨-, he⟩
  exacts [absurd hl' hl, he]

/-- Settles O26, from what every procedure of RUN leaves alone. -/
theorem runCompletesSilently : Obligations.RunCompletesSilently := by
  unfold Obligations.RunCompletesSilently
  refine ⟨fun s hl => ?_, fun s hl => execRun_of_notReady hl⟩
  have hf := s.runProcedure_frame
  exact ⟨s.runProcedure, execRun_of_ready hl, hf.lc.trans hl, hf.cfg, hf.code, hf.sticky, hf.errcode, hf.rdata,
    hf.port, hf.params⟩

/-! ## Where RUN changes nothing (R118, R168) -/

/-- A sync personality whose next pass returns the state itself is done. -/
theorem deframeRun_of_stop {s : State} (h : deframePass s = .stop s) : deframeRun s = s := by
  rw [deframeRun_eq, h]

/-- With no bit to spread there is nothing to do (R250). -/
theorem spreadRun_of_empty {s : State} (h : s.ib = []) : spreadRun s = s := by
  rw [spreadRun_eq, h, List.map_nil, List.append_nil, List.length_nil, BitVec.add_zero, ← h]

/-- With less than one symbol period there is nothing to do (R255). -/
theorem correlateRun_of_no_symbol {s : State} (h : s.sb.length / s.symbolPeriod = 0) : correlateRun s = s := by
  rw [correlateRun_eq, h, symbolRecords, Nat.zero_mul, List.drop_zero, List.append_nil, BitVec.add_zero]

/-! ## A second RUN (R168) -/

/-- The loop ends in a state whose next pass returns at once. -/
theorem deframeRun_idem (s : State) : deframeRun (deframeRun s) = deframeRun s := by
  obtain ⟨u, hu⟩ := deframeRun_ends s
  exact deframeRun_of_stop (deframePass_stop_again hu)

/-- Every bit was consumed (R250). -/
theorem spreadRun_idem (s : State) : spreadRun (spreadRun s) = spreadRun s :=
  spreadRun_of_empty rfl

/-- What the correlator keeps is less than one symbol period (R257). -/
theorem correlateRun_idem (s : State) : correlateRun (correlateRun s) = correlateRun s := by
  apply correlateRun_of_no_symbol
  rw [correlateRun_eq]
  change (s.sb.drop (s.sb.length / s.symbolPeriod * s.symbolPeriod)).length / s.symbolPeriod = 0
  rw [List.length_drop, Nat.mul_comm, ← Nat.mod_eq_sub_mul_div, Nat.mod_div_self]

theorem State.runProcedure_idem (s : State) : s.runProcedure.runProcedure = s.runProcedure := by
  have hsame : s.runProcedure.personality = s.personality :=
    congrArg (fun c : Cfg => personalityOf c.proto) s.runProcedure_frame.cfg
  cases hp : s.personality with
  | none =>
    have hnone : s.runProcedure = s := by rw [State.runProcedure, hp]
    rw [hnone, hnone]
  | some p =>
    rw [hp] at hsame
    cases p with
    | m17 | dstar | p25 | ysf | pocsag =>
      rw [State.runProcedure_sync hsame rfl, State.runProcedure_sync hp rfl, deframeRun_idem]
    | dsssEnc => rw [State.runProcedure_dsssEnc hsame, State.runProcedure_dsssEnc hp, spreadRun_idem]
    | dsssDec => rw [State.runProcedure_dsssDec hsame, State.runProcedure_dsssDec hp, correlateRun_idem]

/-- Settles O28: the procedure of every personality is idempotent, and RUN keeps the channel READY. -/
theorem runTwiceIsRunOnce : Obligations.RunTwiceIsRunOnce := by
  unfold Obligations.RunTwiceIsRunOnce
  intro s hl
  have hready : s.runProcedure.lc = .ready := s.runProcedure_frame.lc.trans hl
  refine ⟨s.runProcedure, execRun_of_ready hl, (execRun_of_ready hready).trans ?_⟩
  rw [State.runProcedure_idem]

/-! ## RUN with IB empty (R118) -/

theorem State.search_of_empty {s : State} (h : s.ib = []) : s.search = none := by
  unfold State.search
  rw [h]
  split <;> rfl

theorem State.collect_of_empty {s : State} (h : s.ib = []) : s.collect = s := by
  unfold State.collect
  rw [h, collectUnits, ← h]

/-- With IB empty a pass finds no sync, makes no choice, and leaves an incomplete part as it is. -/
theorem deframePass_of_empty {s : State} (hib : s.ib = [])
    (hpart : s.dstate.collecting = true → s.fb.length < s.exp) : deframePass s = .stop s := by
  have hcollect := State.collect_of_empty hib
  cases hpass : deframePass s with
  | again t =>
    rcases deframePass_again hpass with ⟨-, o, k, hs, -⟩ | ⟨-, hchoose⟩ | ⟨hc, hfull, -⟩
    · rw [State.search_of_empty hib] at hs
      cases hs
    · rw [State.dstarChoose, hib] at hchoose
      cases hchoose
    · rw [hcollect] at hfull
      exact absurd hfull (Nat.ne_of_lt (hpart hc))
  | stop t =>
    rcases deframePass_stop hpass with ⟨-, -, rfl⟩ | ⟨-, -, rfl⟩ | ⟨-, -, rfl⟩ | ⟨-, rfl⟩
    exacts [rfl, rfl, congrArg Pass.stop hcollect, rfl]

theorem State.ReadyFor.runProcedure_of_empty {s : State} {p : Personality} (h : s.ReadyFor p)
    (hp : p ≠ .dsssDec) (hib : s.ib = []) : s.runProcedure = s := by
  cases p with
  | m17 | dstar | p25 | ysf | pocsag =>
    rw [State.runProcedure_sync h.personality_eq rfl]
    exact deframeRun_of_stop (deframePass_of_empty hib h.fb_partial)
  | dsssEnc => rw [State.runProcedure_dsssEnc h.personality_eq, spreadRun_of_empty hib]
  | dsssDec => exact absurd rfl hp

/-- Settles O30: between commands a part being collected is incomplete, so RUN has nothing to go on with. -/
theorem runOnEmptyBufferChangesNothing : Obligations.RunOnEmptyBufferChangesNothing := by
  unfold Obligations.RunOnEmptyBufferChangesNothing
  intro s hinv hl hproto hib
  obtain ⟨p, hp⟩ := hinv.ready hl
  refine (execRun_of_ready hl).trans ?_
  rw [hp.runProcedure_of_empty (fun hd => hproto (hp.eq_dsssDec_iff.mp hd)) hib]

end Sys2Proof.Machine
end

section
/-! PROOFS. The sync search (R140 to R152): what it answers, by the windows of the buffer, and what follows for the
threshold, an exact sync, and the two M17 patterns. -/

namespace Sys2Proof.Machine

open Sys2Proof.Claims

/-! ## Counting bits -/

theorem countP_add_countP {α : Type} (f g : α → Bool) (l : List α) :
    l.countP f + l.countP g = l.countP (fun a => f a ^^ g a) + 2 * l.countP (fun a => f a && g a) := by
  induction l with
  | nil => rfl
  | cons a l ih =>
    simp only [List.countP_cons]
    cases f a <;> cases g a <;> simp <;> omega

theorem popcount_le {n : Nat} (v : BitVec n) : popcount v ≤ n :=
  List.countP_le_length.trans_eq List.length_range

/-- The bits of two words, by those they differ in and those they share. -/
theorem popcount_add_popcount {n : Nat} (x y : BitVec n) :
    popcount x + popcount y = popcount (x ^^^ y) + 2 * popcount (x &&& y) := by
  simpa [popcount] using countP_add_countP (fun i => x.getLsbD i) (fun i => y.getLsbD i) (List.range n)

/-! ## The match count (R141, R142) -/

/-- In BIT mode a unit contributes the positions of its bits that agree. -/
theorem unitMatch_bit (x y : Byte) :
    unitMatch .bit x y = (List.range 8).countP (fun k => x.getLsbD k == y.getLsbD k) := by
  have hsum := List.length_eq_countP_add_countP (l := List.range 8) (fun i => (x ^^^ y).getLsbD i)
  have hnot : ∀ i, decide (¬ (x ^^^ y).getLsbD i = true) = (x.getLsbD i == y.getLsbD i) := fun i => by
    rw [BitVec.getLsbD_xor]
    cases x.getLsbD i <;> cases y.getLsbD i <;> rfl
  simp only [List.length_range, hnot] at hsum
  simp only [unitMatch, popcount]
  omega

theorem unitAgrees_eq_unitMatch (g : Config.Granularity) (p : Personality) (x y : Byte) :
    unitAgrees (countsBits g p) x y = unitMatch (compareMode g p) x y := by
  cases g with
  | bit =>
    cases p with
    | pocsag => rfl
    | m17 | dstar | p25 | ysf | dsssEnc | dsssDec => exact (unitMatch_bit x y).symm
  | byte => cases p <;> rfl

theorem positions_eq_comparePositions (g : Config.Granularity) (p : Personality) (pat : List Byte) :
    positions g p pat = comparePositions (compareMode g p) pat := by
  cases g <;> cases p <;> rfl

/-- The sum of R141 over the positions of a whole window is the model's count. -/
theorem agreeing_eq_matchCount (g : Config.Granularity) (p : Personality) {buf pat : List Byte} {o : Nat}
    (h : o + pat.length ≤ buf.length) :
    agreeing g p buf pat o = matchCount (compareMode g p) ((buf.drop o).take pat.length) pat := by
  unfold agreeing matchCount
  congr 1
  refine List.ext_getElem (by simp; omega) fun i hi hi' => ?_
  have hpat : i < pat.length := by simpa using hi
  have hbuf : o + i < buf.length := by omega
  simp [unitAgrees_eq_unitMatch, List.getElem?_eq_getElem hpat, List.getElem?_eq_getElem hbuf]

/-! ## The patterns (R2) -/

theorem pats_eq_patterns (p : Personality) : pats p = patterns p := by cases p <;> rfl

theorem length_of_mem_patterns {p : Personality} {pat : List Byte} (h : pat ∈ patterns p) :
    pat.length = p.width := by
  cases p with
  | m17 | dstar | p25 | ysf | pocsag =>
    revert pat
    simp [patterns, Personality.width, codewordUnits]
  | dsssEnc | dsssDec => cases h

theorem Personality.width_pos {p : Personality} (h : p.isSync = true) : 0 < p.width := by
  cases p <;> simp_all [Personality.isSync, Personality.width]

/-- Acceptance as the model tests it: a whole window, which qualifies (R140, R143). -/
theorem accepts_iff_qualifies {g : Config.Granularity} {p : Personality} {thresh : Nat} {buf pat : List Byte}
    {o : Nat} (hpat : pat ∈ patterns p) :
    accepts g p thresh buf pat o ↔ o + p.width ≤ buf.length ∧
      qualifies (compareMode g p) thresh ((buf.drop o).take p.width) pat = true := by
  unfold accepts qualifies
  rw [← length_of_mem_patterns hpat, decide_eq_true_eq, positions_eq_comparePositions]
  exact and_congr_right fun h => by rw [agreeing_eq_matchCount g p h]

/-! ## The search (R144, R145) -/

section
variable {mode : Config.Granularity} {thresh w : Nat} {ps : List (List Byte)}

/-- A window of fewer than `w` units is no candidate (R140). -/
theorem searchFrom_of_short {k : Nat} {buf : List Byte} (h : buf.length < w) :
    searchFrom mode thresh w ps k buf = none := by
  cases buf with
  | nil => rfl
  | cons u us => exact if_pos (by rw [List.length_take]; omega)

/-- The window at the front of the buffer decides, where a pattern is chosen in it. -/
theorem searchFrom_of_choose_some {k p m : Nat} {u : Byte} {us : List Byte} (hw : w ≤ (u :: us).length)
    (h : choose mode thresh ((u :: us).take w) 0 ps = some (p, m)) :
    searchFrom mode thresh w ps k (u :: us) = some (k, p) := by
  unfold searchFrom
  simp only [List.length_take_of_le hw, Nat.lt_irrefl, if_false, h]

/-- Where none is chosen in it, the search goes on with the next window. -/
theorem searchFrom_of_choose_none {k : Nat} {u : Byte} {us : List Byte} (hw : w ≤ (u :: us).length)
    (h : choose mode thresh ((u :: us).take w) 0 ps = none) :
    searchFrom mode thresh w ps k (u :: us) = searchFrom mode thresh w ps (k + 1) us := by
  conv_lhs => unfold searchFrom
  simp only [List.length_take_of_le hw, Nat.lt_irrefl, if_false, h]

/-- NONE: in no whole window a pattern is chosen. -/
theorem searchFrom_eq_none_iff {k : Nat} {buf : List Byte} (hw : 0 < w) :
    searchFrom mode thresh w ps k buf = none ↔
      ∀ o, o + w ≤ buf.length → choose mode thresh ((buf.drop o).take w) 0 ps = none := by
  induction buf generalizing k with
  | nil => exact iff_of_true rfl fun o ho => absurd ho (by simp; omega)
  | cons u us ih =>
    rcases Nat.lt_or_ge (u :: us).length w with hlen | hlen
    · exact iff_of_true (searchFrom_of_short hlen) fun o ho => by omega
    cases hc : choose mode thresh ((u :: us).take w) 0 ps with
    | some r =>
      rw [searchFrom_of_choose_some hlen hc]
      exact iff_of_false nofun fun h => nomatch hc.symm.trans (h 0 (by omega))
    | none =>
      rw [searchFrom_of_choose_none hlen hc, ih]
      refine ⟨fun h o ho => ?_, fun h o ho => h (o + 1) (by simp; omega)⟩
      cases o with
      | zero => exact hc
      | succ o => exact h o (by simp at ho; omega)

/-- An answer: the first whole window in which a pattern is chosen, and that pattern. -/
theorem searchFrom_eq_some_iff {k o p : Nat} {buf : List Byte} (hw : 0 < w) :
    searchFrom mode thresh w ps k buf = some (o, p) ↔
      ∃ j m, o = k + j ∧ j + w ≤ buf.length ∧
        choose mode thresh ((buf.drop j).take w) 0 ps = some (p, m) ∧
        ∀ i, i < j → choose mode thresh ((buf.drop i).take w) 0 ps = none := by
  induction buf generalizing k with
  | nil => exact iff_of_false nofun fun ⟨j, m, _, hj, _⟩ => absurd hj (by simp; omega)
  | cons u us ih =>
    rcases Nat.lt_or_ge (u :: us).length w with hlen | hlen
    · rw [searchFrom_of_short hlen]
      exact iff_of_false nofun fun ⟨j, m, _, hj, _⟩ => by omega
    cases hc : choose mode thresh ((u :: us).take w) 0 ps with
    | some r =>
      rw [searchFrom_of_choose_some hlen hc]
      constructor
      · intro h
        cases h
        exact ⟨0, r.2, rfl, by omega, hc, nofun⟩
      · rintro ⟨j, m, rfl, -, hj, hfirst⟩
        cases j with
        | zero =>
          cases hc.symm.trans hj
          rfl
        | succ j => exact nomatch hc.symm.trans (hfirst 0 (Nat.succ_pos j))
    | none =>
      rw [searchFrom_of_choose_none hlen hc, ih]
      constructor
      · rintro ⟨j, m, rfl, hj, hcj, hfirst⟩
        refine ⟨j + 1, m, by omega, by simp; omega, hcj, fun i hi => ?_⟩
        cases i with
        | zero => exact hc
        | succ i => exact hfirst i (by omega)
      · rintro ⟨j, m, rfl, hj, hcj, hfirst⟩
        cases j with
        | zero => exact nomatch hc.symm.trans hcj
        | succ j => exact ⟨j, m, by omega, by simp at hj; omega, hcj, fun i hi => hfirst (i + 1) (by omega)⟩

end

/-- No pattern is chosen in a whole window: none is accepted there. -/
theorem choose_eq_none_iff_accepts {g : Config.Granularity} {p : Personality} {thresh o : Nat}
    {buf : List Byte} (ho : o + p.width ≤ buf.length) :
    choose (compareMode g p) thresh ((buf.drop o).take p.width) 0 (patterns p) = none ↔
      ∀ pat ∈ patterns p, ¬ accepts g p thresh buf pat o := by
  rw [choose_eq_none]
  refine forall₂_congr fun pat hpat => ?_
  rw [accepts_iff_qualifies hpat, ← Bool.not_eq_true]
  simp [ho]

theorem searchBuffer_eq_none_iff {g : Config.Granularity} {p : Personality} {thresh : Nat} {buf : List Byte}
    (hs : p.isSync = true) :
    searchBuffer g p thresh buf = none ↔ ∀ pat ∈ pats p, ∀ o, ¬ accepts g p thresh buf pat o := by
  rw [searchBuffer, searchFrom_eq_none_iff (Personality.width_pos hs), pats_eq_patterns]
  constructor
  · intro h pat hpat o hacc
    have ho := ((accepts_iff_qualifies hpat).mp hacc).1
    exact (choose_eq_none_iff_accepts ho).mp (h o ho) pat hpat hacc
  · exact fun h o ho => (choose_eq_none_iff_accepts ho).mpr fun pat hpat => h pat hpat o

/-- The pattern chosen in a whole window is accepted, and the best of those that are (R145). -/
theorem accepts_best_of_choose {g : Config.Granularity} {p : Personality} {thresh o k m : Nat} {buf : List Byte}
    (ho : o + p.width ≤ buf.length)
    (h : choose (compareMode g p) thresh ((buf.drop o).take p.width) 0 (patterns p) = some (k, m)) :
    ∃ pat, (pats p)[k]? = some pat ∧ accepts g p thresh buf pat o ∧
      ∀ j pat', (pats p)[j]? = some pat' → accepts g p thresh buf pat' o →
        agreeing g p buf pat' o ≤ agreeing g p buf pat o ∧
        (agreeing g p buf pat' o = agreeing g p buf pat o → k ≤ j) := by
  have hcount : ∀ pat ∈ patterns p, agreeing g p buf pat o =
      matchCount (compareMode g p) ((buf.drop o).take p.width) pat := fun pat hpat => by
    rw [← length_of_mem_patterns hpat] at ho ⊢
    exact agreeing_eq_matchCount g p ho
  obtain ⟨n, pat, rfl, hpat, hq, rfl, hbest⟩ := choose_some h
  have hmem := List.mem_of_getElem? hpat
  rw [pats_eq_patterns, Nat.zero_add]
  refine ⟨pat, hpat, (accepts_iff_qualifies hmem).mpr ⟨ho, hq⟩, fun j pat' hj hacc => ?_⟩
  have hmem' := List.mem_of_getElem? hj
  rw [hcount pat hmem, hcount pat' hmem']
  exact hbest j pat' hj ((accepts_iff_qualifies hmem').mp hacc).2

/-- Settles O32, from the equivalences of the search for NONE and for an answer. -/
theorem searchFindsTheFirstWindow : Obligations.SearchFindsTheFirstWindow := by
  unfold Obligations.SearchFindsTheFirstWindow
  intro g p thresh buf hs
  refine ⟨searchBuffer_eq_none_iff hs, fun o k h => ?_⟩
  obtain ⟨j, m, rfl, hj, hc, hfirst⟩ := (searchFrom_eq_some_iff (Personality.width_pos hs)).mp h
  rw [Nat.zero_add]
  refine ⟨fun pat hpat i hi => ?_, accepts_best_of_choose hj hc⟩
  rw [pats_eq_patterns] at hpat
  exact (choose_eq_none_iff_accepts (by omega)).mp (hfirst i hi) pat hpat

/-! ## The threshold (R148) -/

theorem accepts_of_le {g : Config.Granularity} {p : Personality} {lo hi o : Nat} {buf pat : List Byte}
    (hle : lo ≤ hi) (h : accepts g p hi buf pat o) : accepts g p lo buf pat o :=
  ⟨h.1, (Nat.mul_le_mul_right _ hle).trans h.2⟩

/-- A window accepted somewhere is found there or before. -/
theorem searchBuffer_of_accepts {g : Config.Granularity} {p : Personality} {thresh o : Nat} {buf pat : List Byte}
    (hs : p.isSync = true) (hpat : pat ∈ pats p) (h : accepts g p thresh buf pat o) :
    ∃ o' k, searchBuffer g p thresh buf = some (o', k) ∧ o' ≤ o := by
  obtain ⟨hnone, hsome⟩ := searchFindsTheFirstWindow g p thresh buf hs
  cases hsearch : searchBuffer g p thresh buf with
  | none => exact absurd h (hnone.mp hsearch pat hpat o)
  | some r =>
    obtain ⟨hbefore, -⟩ := hsome r.1 r.2 hsearch
    exact ⟨r.1, r.2, rfl, Nat.le_of_not_lt fun hlt => hbefore pat hpat o hlt h⟩

/-- Settles O33: acceptance is antitone in the threshold, and an accepted window bounds the answer. -/
theorem lowerThresholdFindsNoLater : Obligations.LowerThresholdFindsNoLater := by
  unfold Obligations.LowerThresholdFindsNoLater
  intro g p hi lo buf hle hs
  refine ⟨fun pat _ o => accepts_of_le hle, fun o k h => ?_⟩
  obtain ⟨-, pat, hpat, hacc, -⟩ := (searchFindsTheFirstWindow g p hi buf hs).2 o k h
  exact searchBuffer_of_accepts hs (List.mem_of_getElem? hpat) (accepts_of_le hle hacc)

/-! ## An exact sync (R152) -/

/-- Every position of a pattern agrees with itself. -/
theorem matchCount_self (mode : Config.Granularity) (pat : List Byte) :
    matchCount mode pat pat = comparePositions mode pat := by
  have hunit : ∀ x : Byte, unitMatch mode x x = comparePositions mode [x] := by
    cases mode with
    | bit => exact fun x => by rw [unitMatch, BitVec.xor_self]; rfl
    | byte => exact fun x => if_pos rfl
  induction pat with
  | nil => cases mode <;> rfl
  | cons x xs ih =>
    have hsum : matchCount mode (x :: xs) (x :: xs) = unitMatch mode x x + matchCount mode xs xs := rfl
    rw [hsum, ih, hunit]
    cases mode <;> simp [comparePositions] <;> omega

/-- A pattern agrees with no other pattern of its personality as well as with itself. -/
theorem eq_of_matchCount_self_le {p : Personality} (g : Config.Granularity) :
    ∀ pat ∈ patterns p, ∀ pat' ∈ patterns p,
      matchCount (compareMode g p) pat pat ≤ matchCount (compareMode g p) pat pat' → pat = pat' := by
  cases p with
  | m17 => cases g <;> decide
  | dstar | p25 | ysf | pocsag | dsssEnc | dsssDec => 
    simp [patterns]

theorem patterns_nodup (p : Personality) : (patterns p).Nodup := by
  cases p <;> simp [patterns]

/-- Settles O34: the exact pattern is accepted at offset 0 at every legal threshold, and no other has its count. -/
theorem exactSyncIsFoundAtOffsetZero : Obligations.ExactSyncIsFoundAtOffsetZero := by
  unfold Obligations.ExactSyncIsFoundAtOffsetZero
  intro g p thresh k pat rest hs hk hthresh
  have hpat := List.mem_of_getElem? hk
  have hcount : ∀ pat' ∈ pats p,
      agreeing g p (pat ++ rest) pat' 0 = matchCount (compareMode g p) pat pat' := fun pat' hpat' => by
    rw [pats_eq_patterns] at hpat hpat'
    have hlen := (length_of_mem_patterns hpat').trans (length_of_mem_patterns hpat).symm
    rw [agreeing_eq_matchCount g p (by simp [hlen]), hlen, List.drop_zero, List.take_left]
  have hacc : accepts g p thresh (pat ++ rest) pat 0 := by
    refine ⟨by simp, ?_⟩
    rw [hcount pat hpat, matchCount_self, ← positions_eq_comparePositions, Nat.mul_comm]
    exact Nat.mul_le_mul_left _ hthresh
  obtain ⟨o, j, hsearch, ho⟩ := searchBuffer_of_accepts hs hpat hacc
  obtain rfl := Nat.le_zero.mp ho
  obtain ⟨-, pat', hj, -, hbest⟩ := (searchFindsTheFirstWindow g p thresh _ hs).2 0 j hsearch
  have hle := (hbest k pat hk hacc).1
  rw [hcount pat hpat, hcount pat' (List.mem_of_getElem? hj)] at hle
  rw [pats_eq_patterns] at hk hj hpat
  obtain rfl := eq_of_matchCount_self_le g pat hpat pat' (List.mem_of_getElem? hj) hle
  have hjk : j = k := by
    have hlt := (List.getElem?_eq_some_iff.mp hj).1
    exact (List.getElem?_inj hlt (patterns_nodup p)).mp (hj.trans hk.symm)
  rw [hsearch, hjk]

/-! ## The two M17 patterns (R151) -/

/-- The two M17 patterns differ in five of their 16 bits, of which every window misses one or the other; any other
bit it misses in both. -/
theorem m17_matchCounts (a b : Byte) : ∃ n,
    matchCount .bit [a, b] [0xDF, 0x55] + matchCount .bit [a, b] [0x9F, 0xF6] + 5 + 2 * n = 32 := by
  have ha := popcount_add_popcount (a ^^^ 0xDF) (a ^^^ 0x9F)
  have hb := popcount_add_popcount (b ^^^ 0x55) (b ^^^ 0xF6)
  have hxor (x y z : Byte) : x ^^^ y ^^^ (x ^^^ z) = y ^^^ z := by
    rw [BitVec.xor_comm x y, BitVec.xor_assoc, ← BitVec.xor_assoc x x, BitVec.xor_self, BitVec.zero_xor]
  rw [hxor, show popcount (0xDF ^^^ 0x9F : Byte) = 1 by decide] at ha
  rw [hxor, show popcount (0x55 ^^^ 0xF6 : Byte) = 4 by decide] at hb
  have h1 := popcount_le (a ^^^ 0xDF)
  have h2 := popcount_le (a ^^^ 0x9F)
  have h3 := popcount_le (b ^^^ 0x55)
  have h4 := popcount_le (b ^^^ 0xF6)
  refine ⟨popcount ((a ^^^ 0xDF) &&& (a ^^^ 0x9F)) + popcount ((b ^^^ 0x55) &&& (b ^^^ 0xF6)), ?_⟩
  simp only [matchCount_pair, unitMatch]
  omega

/-- R143 for two bytes in BIT mode, where N is 16. -/
theorem qualifies_pair_iff (thresh : Nat) (a b x y : Byte) :
    qualifies .bit thresh [a, b] [x, y] = true ↔ thresh * 16 ≤ matchCount .bit [a, b] [x, y] * 32768 :=
  decide_eq_true_iff

/-- The choice between the two M17 patterns is the larger count. -/
theorem m17_choose_larger {thresh k m : Nat} {a b : Byte}
    (h : choose .bit thresh [a, b] 0 (patterns .m17) = some (k, m)) :
    (k = 0 ∧ matchCount .bit [a, b] [0x9F, 0xF6] < matchCount .bit [a, b] [0xDF, 0x55]) ∨
    (k = 1 ∧ matchCount .bit [a, b] [0xDF, 0x55] < matchCount .bit [a, b] [0x9F, 0xF6]) := by
  obtain ⟨d, hsum⟩ := m17_matchCounts a b
  obtain ⟨n, pat, rfl, hpat, hq, rfl, hbest⟩ := choose_some h
  have h0 := hbest 0 [0xDF, 0x55] rfl
  have h1 := hbest 1 [0x9F, 0xF6] rfl
  rw [qualifies_pair_iff] at h0 h1
  match n, hpat with
  | 0, hpat =>
    cases hpat
    rw [qualifies_pair_iff] at hq
    exact .inl ⟨rfl, by omega⟩
  | 1, hpat =>
    cases hpat
    rw [qualifies_pair_iff] at hq
    exact .inr ⟨rfl, by omega⟩

/-- Settles O35: the counts sum to an odd number, at most 27, and 0x6800 asks for 14 of each. -/
theorem m17PatternsNeverTieInBitMode : Obligations.M17PatternsNeverTieInBitMode := by
  unfold Obligations.M17PatternsNeverTieInBitMode
  intro a b thresh
  obtain ⟨d, hsum⟩ := m17_matchCounts a b
  refine ⟨fun pat hpat => ?_, by omega, fun hthresh => ?_, fun k hk => ?_⟩
  · have hlen : pat.length = 2 := length_of_mem_patterns (p := .m17) hpat
    rw [agreeing_eq_matchCount .bit .m17 (by simp [hlen]), hlen]
    rfl
  · rw [qualifies_pair_iff, qualifies_pair_iff]
    omega
  · obtain ⟨j, m, hj, hlen, hc, -⟩ := (searchFrom_eq_some_iff (Personality.width_pos (p := .m17) rfl)).mp hk
    obtain rfl : j = 0 := by omega
    have hlarger := m17_choose_larger hc
    omega

end Sys2Proof.Machine
end

section
/-! PROOFS. RUN of the sync personalities: where it ends (R168), and that an extra RUN between PUSHes does not matter
(R170). -/

namespace Sys2Proof.Machine

open Sys2Proof.Claims

/-! ## A constructed channel of a sync personality -/

theorem Personality.isSync_iff (p : Personality) : p.isSync = true ↔ p.number ≤ 5 := by
  cases p <;> simp [Personality.isSync, Personality.number]

/-- In READY, PROTO up to 5 is a sync personality (R22, R114). -/
theorem State.Inv.sync {s : State} (h : s.Inv) (hl : s.lc = .ready) (hproto : s.cfg.proto.toNat ≤ 5) :
    ∃ p, s.ReadyFor p ∧ p.isSync = true := by
  obtain ⟨p, hp⟩ := h.ready hl
  exact ⟨p, hp, p.isSync_iff.mpr (personalityOf_eq_some hp.personality_eq ▸ hproto)⟩

/-- RUN of a sync personality is the loop of R160. -/
theorem execRun_sync {s : State} {p : Personality} (hl : s.lc = .ready) (hp : s.personality = some p)
    (hs : p.isSync = true) : execRun s = .next (deframeRun s) := by
  rw [execRun_of_ready hl, State.runProcedure_sync hp hs]

theorem State.search_eq {s : State} {p : Personality} (hp : s.personality = some p) :
    s.search = searchBuffer s.params.matchGranularity p s.cfg.thresh.toNat s.ib := by
  rw [State.search, hp]

/-! ## One pass, by what it meets (R160) -/

section
variable {s : State}

theorem deframePass_of_found {o k : Nat} (hd : s.dstate = .syncSearch) (h : s.search = some (o, k)) :
    deframePass s = .again ((s.dropUnits o).onSync k) := by
  simp only [deframePass, hd, searchPass, h]

theorem deframePass_of_chosen {t : State} (hd : s.dstate = .dstarSynced) (h : s.dstarChoose = some t) :
    deframePass s = .again t := by
  simp only [deframePass, hd, choosePass, h]

theorem deframePass_collecting (h : s.dstate.collecting = true) : deframePass s = collectPass s := by
  cases hd : s.dstate <;> simp_all [deframePass, DState.collecting]

theorem deframePass_of_full (hc : s.dstate.collecting = true) (h : s.collect.fb.length = s.exp) :
    deframePass s = .again s.collect.complete := by
  rw [deframePass_collecting hc]
  exact if_pos h

theorem deframePass_of_partial (hc : s.dstate.collecting = true) (h : s.collect.fb.length ≠ s.exp) :
    deframePass s = .stop s.collect := by
  rw [deframePass_collecting hc]
  exact if_neg h

end

section
variable {s : State} (k : Nat)

theorem State.onSync_m17 (hp : s.personality = some .m17) : s.onSync k = onSyncM17 k s := by
  rw [State.onSync, hp]

theorem State.onSync_dstar (hp : s.personality = some .dstar) : s.onSync k = onSyncDstar s := by
  rw [State.onSync, hp]

theorem State.onSync_p25 (hp : s.personality = some .p25) : s.onSync k = onSyncP25 s := by
  rw [State.onSync, hp]

theorem State.onSync_ysf (hp : s.personality = some .ysf) : s.onSync k = onSyncYsf s := by
  rw [State.onSync, hp]

theorem State.onSync_pocsag (hp : s.personality = some .pocsag) : s.onSync k = onSyncPocsag s := by
  rw [State.onSync, hp]

end

/-! ## Where RUN ends (R168) -/

/-- The loop ends in a state whose next pass returns that state. -/
theorem deframePass_deframeRun (s : State) : deframePass (deframeRun s) = .stop (deframeRun s) := by
  obtain ⟨u, hu⟩ := deframeRun_ends s
  exact deframePass_stop_again hu

/-- A constructed sync channel is in one of its sync personality's states. -/
theorem State.ReadyFor.dstate_ne {s : State} {p : Personality} (h : s.ReadyFor p) (hs : p.isSync = true) :
    s.dstate ≠ .idle ∧ s.dstate ≠ .dsssStream := by
  have hfits := h.dstate_fits
  refine ⟨fun hd => ?_, fun hd => ?_⟩ <;> rw [hd] at hfits
  · cases hfits
  · cases p <;> simp_all [DState.fits, Personality.isDsss, Personality.isSync]

/-- Where collecting changes nothing and the part is not complete, no unit is left. -/
theorem State.ib_empty_of_collect_eq {s : State} (h : s.collect = s) (hlt : s.fb.length < s.exp) : s.ib = [] := by
  have hfull := collectUnits_full_or_empty s.exp s.fb s.ib
  rw [← State.collect_fb, ← State.collect_ib, h] at hfull
  exact hfull.resolve_left (Nat.not_le_of_lt hlt)

/-- Settles O29: the state RUN ends in stops the next pass, for one of the reasons of R168. -/
theorem runEndsWithNothingEnabled : Obligations.RunEndsWithNothingEnabled := by
  unfold Obligations.RunEndsWithNothingEnabled
  intro s hinv hl hproto
  obtain ⟨p, hp, hs⟩ := hinv.sync hl hproto
  refine ⟨deframeRun s, execRun_sync hl hp.personality_eq hs, ?_⟩
  have hready := hp.deframeRun hs
  rcases deframePass_stop (deframePass_deframeRun s) with ⟨hd, hnone, -⟩ | ⟨hd, hib, -⟩ | ⟨hc, -, he⟩ | ⟨hd, -⟩
  · refine .inl ⟨hd, fun q hq => ?_⟩
    obtain rfl : p = q := Option.some_inj.mp (hready.personality_eq.symm.trans hq)
    rw [State.search_eq hq] at hnone
    exact (searchBuffer_eq_none_iff hs).mp hnone
  · exact .inr (.inl ⟨hd, hib⟩)
  · have hlt := hready.fb_partial hc
    exact .inr (.inr ⟨hc, State.ib_empty_of_collect_eq he.symm hlt, hlt⟩)
  · obtain ⟨hidle, hstream⟩ := hready.dstate_ne hs
    exact absurd hd (not_or.mpr ⟨hidle, hstream⟩)

/-! ## More units behind those in IB (R170) -/

/-- IB with the units `us` after those it holds. -/
def State.appendUnits (us : List Byte) (s : State) : State := { s with ib := s.ib ++ us }

section
variable {s t : State} (us : List Byte)

@[simp] theorem State.appendUnits_fb : (s.appendUnits us).fb = s.fb := rfl
@[simp] theorem State.appendUnits_dstate : (s.appendUnits us).dstate = s.dstate := rfl

/-- A window that lies in IB stays the same. -/
theorem take_drop_append {ib : List Byte} {j w : Nat} (h : j + w ≤ ib.length) :
    ((ib ++ us).drop j).take w = (ib.drop j).take w := by
  rw [List.drop_append_of_le_length (by omega), List.take_append_of_le_length (by simp; omega)]

/-- A sync found stays found: the search answers the first window that qualifies (R144). -/
theorem searchBuffer_append {g : Config.Granularity} {p : Personality} {thresh : Nat} {ib : List Byte}
    {r : Nat × Nat} (hs : p.isSync = true) (h : searchBuffer g p thresh ib = some r) :
    searchBuffer g p thresh (ib ++ us) = some r := by
  have hw := Personality.width_pos hs
  obtain ⟨j, m, ho, hlen, hc, hfirst⟩ := (searchFrom_eq_some_iff hw).mp h
  refine (searchFrom_eq_some_iff hw).mpr ⟨j, m, ho, by rw [List.length_append]; omega, ?_, fun i hi => ?_⟩
  · rw [take_drop_append us hlen, hc]
  · rw [take_drop_append us (by omega), hfirst i hi]

theorem State.search_appendUnits {r : Nat × Nat} (h : s.search = some r) : (s.appendUnits us).search = some r := by
  obtain ⟨p, hp, hs, -⟩ := State.search_some h
  rw [State.search_eq hp] at h
  exact (State.search_eq (s := s.appendUnits us) hp).trans (searchBuffer_append us hs h)

theorem State.dropUnits_appendUnits {n : Nat} (h : n ≤ s.ib.length) :
    (s.appendUnits us).dropUnits n = (s.dropUnits n).appendUnits us := by
  unfold State.dropUnits State.appendUnits
  rw [List.drop_append_of_le_length h]

theorem State.keepSync_appendUnits (h : 2 ≤ s.ib.length) :
    (s.appendUnits us).keepSync = s.keepSync.appendUnits us := by
  unfold State.keepSync State.appendUnits
  rw [List.drop_append_of_le_length h, List.take_append_of_le_length h]

/-- A frame starts with the same sync (R146). -/
theorem State.onSync_appendUnits {p : Personality} (k : Nat) (hp : s.personality = some p)
    (h : p.width ≤ s.ib.length) : (s.appendUnits us).onSync k = (s.onSync k).appendUnits us := by
  have hp' : (s.appendUnits us).personality = some p := hp
  cases p with
  | m17 =>
    have hkeep := State.keepSync_appendUnits us h
    rw [State.onSync_m17 k hp, State.onSync_m17 k hp']
    cases k with
    | zero => exact congrArg (State.expect .m17Lsf 48) hkeep
    | succ k => exact congrArg (State.expect .m17Pkt s.cfg.m17Maxlen.toNat) hkeep
  | dstar =>
    rw [State.onSync_dstar k hp, State.onSync_dstar k hp']
    exact congrArg (State.expect .dstarSynced 0) (State.dropUnits_appendUnits us h)
  | p25 =>
    rw [State.onSync_p25 k hp, State.onSync_p25 k hp']
    exact congrArg (State.expect .p25Nid 8) (State.dropUnits_appendUnits us h)
  | ysf =>
    rw [State.onSync_ysf k hp, State.onSync_ysf k hp']
    exact congrArg (State.expect .ysfFich 5) (State.dropUnits_appendUnits us h)
  | pocsag =>
    rw [State.onSync_pocsag k hp, State.onSync_pocsag k hp']
    exact congrArg (State.expect .pocsagBatch 512) (State.dropUnits_appendUnits us h)
  | dsssEnc | dsssDec => rw [State.onSync, State.onSync, hp, hp']

/-- Collecting in two goes, with more units in between, is collecting all at once (R161). -/
theorem collectUnits_append_right (exp : Nat) (fb ib us : List Byte) :
    collectUnits exp fb (ib ++ us) =
      collectUnits exp (collectUnits exp fb ib).1 ((collectUnits exp fb ib).2 ++ us) := by
  induction ib generalizing fb with
  | nil => rfl
  | cons u ib ih =>
    by_cases h : fb.length < exp
    · simpa [collectUnits, h] using ih (fb ++ [u])
    · simp [collectUnits, h]

theorem State.collect_appendUnits_collect : (s.collect.appendUnits us).collect = (s.appendUnits us).collect := by
  simp only [State.collect, State.appendUnits, collectUnits_append_right s.exp s.fb s.ib us]

/-- A complete part takes no more. -/
theorem State.collect_of_full (h : s.fb.length = s.exp) : s.collect = s := by
  simp [State.collect, collectUnits_eq, h]

theorem State.collect_appendUnits_of_full (h : s.collect.fb.length = s.exp) :
    (s.appendUnits us).collect = s.collect.appendUnits us := by
  rw [← State.collect_appendUnits_collect]
  exact State.collect_of_full h

/-- The end of a part does not look at IB (R162). -/
theorem State.complete_appendUnits : (s.appendUnits us).complete = s.complete.appendUnits us := by
  unfold State.complete
  rw [State.appendUnits_dstate]
  cases s.dstate with
  | m17Lsf =>
    simp only [completeM17Lsf, State.appendUnits_fb, apply_ite (State.appendUnits us)]
    rfl
  | m17Pkt =>
    simp only [completeM17Pkt, State.appendUnits_fb, apply_ite (State.appendUnits us)]
    rfl
  | pocsagBatch =>
    simp only [completePocsagBatch, State.emitAll_eq]
    rfl
  | dstarHeader | dstarVoice | p25Nid | p25Ldu1 | p25Ldu2 | ysfFich | ysfVoice | idle | syncSearch
  | dstarSynced | dsssStream => rfl

/-- But for the D-STAR choice, a pass that goes round again does the same with more units in IB. -/
theorem deframePass_appendUnits_again (hd : s.dstate ≠ .dstarSynced) (h : deframePass s = .again t) :
    deframePass (s.appendUnits us) = .again (t.appendUnits us) := by
  rcases deframePass_again h with ⟨hsearch, o, k, hfound, rfl⟩ | ⟨hsynced, -⟩ | ⟨hc, hfull, rfl⟩
  · obtain ⟨p, hp, -, hlen, -⟩ := State.search_some hfound
    rw [deframePass_of_found (s := s.appendUnits us) hsearch (State.search_appendUnits us hfound),
      State.dropUnits_appendUnits us (by omega),
      State.onSync_appendUnits us (s := s.dropUnits o) k hp (by simp; omega)]
  · exact absurd hsynced hd
  · have hcollect := State.collect_appendUnits_of_full us hfull
    rw [deframePass_of_full (s := s.appendUnits us) hc (by rw [hcollect]; exact hfull), hcollect,
      State.complete_appendUnits]

/-- A pass that returns leaves a state that goes on with more units as the state before the pass does. -/
theorem deframePass_appendUnits_stop (h : deframePass s = .stop t) :
    deframePass (t.appendUnits us) = deframePass (s.appendUnits us) := by
  rcases deframePass_stop h with ⟨-, -, rfl⟩ | ⟨-, -, rfl⟩ | ⟨hc, -, rfl⟩ | ⟨-, rfl⟩
  · rfl
  · rfl
  · rw [deframePass_collecting (s := s.appendUnits us) hc,
      deframePass_collecting (s := s.collect.appendUnits us) hc, collectPass, collectPass,
      State.collect_appendUnits_collect]
  · rfl

/-- Only D-STAR has the state in which the bytes at hand make a difference. -/
theorem State.Deframing.dstate_ne_dstarSynced {p : Personality} (h : s.Deframing p) (hp : p ≠ .dstar) :
    s.dstate ≠ .dstarSynced := fun hd => by
  have hfits := h.dstate_fits
  rw [hd] at hfits
  exact hp (by simpa [DState.fits] using hfits)

/-- Running before more units arrive makes no difference to the run with them (R170): every pass keeps what that run
answers. -/
theorem deframeRun_appendUnits {p : Personality} (h : s.Deframing p) (hp : p ≠ .dstar) :
    deframeRun ((deframeRun s).appendUnits us) = deframeRun (s.appendUnits us) := by
  refine (deframeRun_keeps
    (fun t => t.Deframing p ∧ deframeRun (t.appendUnits us) = deframeRun (s.appendUnits us)) ?_ ⟨h, rfl⟩).2
  rintro t ⟨ht, hrun⟩
  refine ⟨ht.deframePass, Eq.trans ?_ hrun⟩
  cases hpass : deframePass t with
  | again v =>
    rw [deframeRun_eq (t.appendUnits us),
      deframePass_appendUnits_again us (ht.dstate_ne_dstarSynced hp) hpass]
    rfl
  | stop v =>
    rw [deframeRun_eq (t.appendUnits us), ← deframePass_appendUnits_stop us hpass, ← deframeRun_eq]
    rfl

end

/-! ## RUN takes units from IB and puts none there (R146, R161) -/

theorem deframePass_ib_length_le (s : State) : (deframePass s).state.ib.length ≤ s.ib.length := by
  cases hpass : deframePass s with
  | again t =>
    rcases deframePass_again hpass with ⟨-, o, k, hfound, rfl⟩ | ⟨-, hc⟩ | ⟨hc, -, rfl⟩
    · obtain ⟨p, hp, hs, -⟩ := State.search_some hfound
      obtain ⟨-, hib, -⟩ := State.onSync_cases (s := s.dropUnits o) k hp hs
      rw [Pass.state, hib, State.dropUnits_ib, List.drop_drop]
      exact (List.drop_sublist _ _).length_le
    · rcases s.dstarChoose_cases with ⟨-, he⟩ | ⟨-, -, he⟩ | ⟨-, he⟩ <;> rw [he] at hc <;> cases hc
      exacts [le_rfl, le_rfl]
    · have hib : s.collect.complete.ib = s.collect.ib := by
        rcases State.complete_cases s.collect hc with ⟨-, -, -, hib⟩ | ⟨-, -, -, hib⟩ <;> exact hib
      rw [Pass.state, hib, State.collect_ib, collectUnits_eq]
      exact (List.drop_sublist _ _).length_le
  | stop t =>
    rcases deframePass_stop hpass with ⟨-, -, rfl⟩ | ⟨-, -, rfl⟩ | ⟨-, -, rfl⟩ | ⟨-, rfl⟩
    · exact le_rfl
    · exact le_rfl
    · rw [Pass.state, State.collect_ib, collectUnits_eq]
      exact (List.drop_sublist _ _).length_le
    · exact le_rfl

theorem deframeRun_ib_length_le (s : State) : (deframeRun s).ib.length ≤ s.ib.length :=
  deframeRun_keeps (fun t => t.ib.length ≤ s.ib.length) (fun t h => (deframePass_ib_length_le t).trans h) le_rfl

/-! ## Programs of PUSH and RUN -/

theorem runWord_run (s : State) : runWord (encode .run) s = execRun s := runWord_of_decode (i := .run) rfl s

theorem runWords_append_of_next {ws vs : List Word} {s t : State} (h : runWords ws s = .next t) :
    runWords (ws ++ vs) s = runWords vs t := by
  induction ws generalizing s with
  | nil =>
    cases h
    rfl
  | cons w ws ih =>
    cases hw : runWord w s with
    | next v =>
      rw [runWords_cons_of_next hw] at h
      exact (runWords_cons_of_next hw).trans (ih h)
    | fault r => exact nomatch r
    | refused r =>
      rw [runWords, hw] at h
      cases h

/-- PUSHes of good units within the cap, and a RUN of a sync personality. -/
theorem runWords_pushWords_run {us : List Byte} {s : State} {p : Personality} (h : s.ReadyFor p)
    (hl : s.lc = .ready) (hs : p.isSync = true) (hus : ∀ u ∈ us, s.badUnit u = false)
    (hcap : s.ib.length + us.length ≤ s.cfg.bufcap.toNat) :
    runWords (pushWords us ++ [encode .run]) s = .next (deframeRun (s.appendUnits us)) := by
  have hp7 : s.cfg.proto ≠ 7 := fun h7 => Personality.ne_dsssDec_of_isSync hs (h.eq_dsssDec_iff.mpr h7)
  have hpush : runWords (pushWords us) s = .next (s.appendUnits us) := by
    rw [runWords_pushWords hl hp7 hus, foldl_capAppend us (one_le_bufcap h.config_ok) h.ib_capped,
      Nat.sub_eq_zero_of_le hcap, List.drop_zero]
    rfl
  rw [runWords_append_of_next hpush]
  exact runWords_cons_of_next ((runWord_run _).trans (execRun_sync hl h.personality_eq hs))

/-- Settles O31: both programs end in the run over all the units (`deframeRun_appendUnits`). -/
theorem chunkBoundariesDoNotMatter : Obligations.ChunkBoundariesDoNotMatter := by
  unfold Obligations.ChunkBoundariesDoNotMatter
  intro us s hinv hl hproto hdstar hbits hcap
  obtain ⟨p, hp, hs⟩ := hinv.sync hl hproto
  have hframe := deframeRun_frame s
  have hpd : p ≠ .dstar := by
    rintro rfl
    have hn := personalityOf_eq_some hp.personality_eq
    exact hdstar (BitVec.eq_of_toNat_eq hn)
  have hus : ∀ u ∈ us, s.badUnit u = false := fun u hu => State.badUnit_eq_false fun hn => by
    have h5 : s.cfg.proto = 5 := hn.resolve_right fun h6 => by
      rw [h6] at hproto
      exact absurd hproto (by decide)
    rcases hbits h5 u hu with rfl | rfl <;> decide
  have hrun : runWord (encode .run) s = .next (deframeRun s) :=
    (runWord_run s).trans (execRun_sync hl hp.personality_eq hs)
  have hus' : ∀ u ∈ us, (deframeRun s).badUnit u = false := fun u hu => by
    rw [State.badUnit, State.personality, hframe.cfg]
    exact hus u hu
  have hcap' : (deframeRun s).ib.length + us.length ≤ (deframeRun s).cfg.bufcap.toNat := by
    have hlen := deframeRun_ib_length_le s
    rw [hframe.cfg]
    omega
  rw [List.cons_append, runWords_cons_of_next hrun,
    runWords_pushWords_run (hp.deframeRun hs) (hframe.lc.trans hl) hs hus' hcap',
    runWords_pushWords_run hp hl hs hus hcap, deframeRun_appendUnits us (hp.deframing hs) hpd]

end Sys2Proof.Machine
end

section
/-! PROOFS. Whole frames: RUN from a search that finds a sync, part by part, to the record (R146, R161 to R163), for
M17 (R180 to R185), D-STAR (R190 to R197), P25 (R210 to R214) and YSF (R220 to R223). -/

namespace Sys2Proof.Machine

open Sys2Proof.Claims

/-! ## The states between the passes of a frame

Until its record is emitted a frame changes nothing but IB and what `State.enter` sets. So each state between two
passes is `(s.withIb us).enter d …` of the state `s` in which RUN began. -/

/-- IB <- us. -/
def State.withIb (us : List Byte) (s : State) : State := { s with ib := us }

/-- The state is as `end_frame()` leaves it (R163): searching, with nothing collected or held. -/
def State.BetweenFrames (s : State) : Prop := s.endFrame = s

section
variable {s : State} {d : DState} {fb nid ldu1 fich part rest us : List Byte}

theorem State.dropUnits_eq_withIb {pre : List Byte} (h : s.ib = pre ++ us) :
    s.dropUnits pre.length = s.withIb us := by
  rw [State.dropUnits, h, List.drop_left]
  rfl

/-- Collecting in a state of a frame (R161). -/
theorem State.collect_enter : ((s.withIb us).enter d fb nid ldu1 fich).collect =
    (s.withIb (us.drop (expectedLength s.cfg d - fb.length))).enter d
      (fb ++ us.take (expectedLength s.cfg d - fb.length)) nid ldu1 fich := by
  rw [State.collect, collectUnits_eq]
  rfl

/-- A part that IB completes is completed, and RUN goes on with the rest (R161, R162). -/
theorem deframeRun_enter_full (hc : d.collecting = true)
    (hlen : fb.length + part.length = expectedLength s.cfg d) :
    deframeRun ((s.withIb (part ++ rest)).enter d fb nid ldu1 fich) =
      deframeRun ((s.withIb rest).enter d (fb ++ part) nid ldu1 fich).complete := by
  have hcollect : ((s.withIb (part ++ rest)).enter d fb nid ldu1 fich).collect =
      (s.withIb rest).enter d (fb ++ part) nid ldu1 fich := by
    rw [State.collect_enter, ← hlen, Nat.add_sub_cancel_left, List.drop_left, List.take_left]
  have hfull : ((s.withIb rest).enter d (fb ++ part) nid ldu1 fich).fb.length = expectedLength s.cfg d :=
    List.length_append.trans hlen
  rw [deframeRun_eq, deframePass_of_full hc (by rw [hcollect]; exact hfull), hcollect]

/-- A part that IB does not complete takes all of IB, and RUN ends (R161, R167). -/
theorem deframeRun_enter_partial (hc : d.collecting = true)
    (hlen : fb.length + us.length < expectedLength s.cfg d) :
    deframeRun ((s.withIb us).enter d fb nid ldu1 fich) = (s.withIb []).enter d (fb ++ us) nid ldu1 fich := by
  have hle : us.length ≤ expectedLength s.cfg d - fb.length := by omega
  have hcollect : ((s.withIb us).enter d fb nid ldu1 fich).collect =
      (s.withIb []).enter d (fb ++ us) nid ldu1 fich := by
    rw [State.collect_enter, List.drop_eq_nil_of_le hle, List.take_of_length_le hle]
  have hpart : ((s.withIb []).enter d (fb ++ us) nid ldu1 fich).fb.length ≠ expectedLength s.cfg d :=
    Nat.ne_of_lt (List.length_append.trans_lt hlen)
  rw [deframeRun_eq, deframePass_of_partial hc (by rw [hcollect]; exact hpart), hcollect]

end

/-! ## RUN from a state that searches (R146) -/

theorem personalityOf_of_number {proto : Reg} {p : Personality} (h : proto.toNat = p.number) :
    personalityOf proto = some p := by
  rw [personalityOf, h]
  cases p <;> rfl

section
variable {s t : State} {p : Personality}

/-- While a sync is searched for, nothing is collected or held (R38, R40, R41). -/
theorem State.ReadyFor.betweenFrames (h : s.ReadyFor p) (hd : s.dstate = .syncSearch) : s.BetweenFrames := by
  have hexp := h.exp_eq
  have hfb := h.fb_empty
  have hnid : s.nidreg = [] := List.length_eq_zero_iff.mp (h.nid_length.trans (by rw [hd]; rfl))
  have hldu1 : s.ldu1reg = [] := List.length_eq_zero_iff.mp (h.ldu1_length.trans (by rw [hd]; rfl))
  have hfich : s.fichreg = [] := List.length_eq_zero_iff.mp (h.fich_length.trans (by rw [hd]; rfl))
  rw [hd] at hexp hfb
  cases s
  simp_all [State.BetweenFrames, State.endFrame, expectedLength, DState.collecting]

theorem lc_of_searching {n : Nat} (h : searching s n) : s.lc = .ready := h.2.1

theorem dstate_of_searching {n : Nat} (h : searching s n) : s.dstate = .syncSearch := h.2.2.2

theorem readyFor_of_searching (h : searching s p.number) : s.ReadyFor p := by
  obtain ⟨hinv, hl, hproto, -⟩ := h
  obtain ⟨q, hq⟩ := hinv.ready hl
  obtain rfl : p = q := Option.some_inj.mp ((personalityOf_of_number hproto).symm.trans hq.personality_eq)
  exact hq

theorem betweenFrames_of_searching (h : searching s p.number) : s.BetweenFrames :=
  (readyFor_of_searching h).betweenFrames (dstate_of_searching h)

/-- RUN discards the units before the sync it finds and starts the frame (R146). -/
theorem deframeRun_of_foundAfter {pre us : List Byte} {k : Nat} (h : searching s p.number)
    (hib : s.ib = pre ++ us) (hf : foundAfter s p pre k) : deframeRun s = deframeRun ((s.withIb us).onSync k) := by
  have hsearch : s.search = some (pre.length, k) :=
    (State.search_eq (readyFor_of_searching h).personality_eq).trans hf
  rw [deframeRun_eq, deframePass_of_found (dstate_of_searching h) hsearch, State.dropUnits_eq_withIb hib]

theorem execRun_of_searching (h : searching s p.number) (hs : p.isSync = true) :
    execRun s = .next (deframeRun s) :=
  execRun_sync (lc_of_searching h) (readyFor_of_searching h).personality_eq hs

/-- Where the loop goes through `t`, a state that searches too, RUN does. -/
theorem runsThrough_of_deframeRun_eq {rest : List Byte} (h : searching s p.number) (hs : p.isSync = true)
    (hlc : t.lc = s.lc) (hcfg : t.cfg = s.cfg) (hd : t.dstate = s.dstate) (hib : t.ib = rest)
    (hrun : deframeRun s = deframeRun t) : runsThrough s t rest := by
  have hp : t.personality = some p := by
    rw [State.personality, hcfg]
    exact (readyFor_of_searching h).personality_eq
  have hsearch : t.dstate = .syncSearch := hd.trans (dstate_of_searching h)
  have hexec : execRun s = .next (deframeRun t) := by rw [execRun_of_searching h hs, hrun]
  refine ⟨hexec.trans (execRun_sync (hlc.trans (lc_of_searching h)) hp hs).symm, fun hrest => hexec.trans ?_⟩
  rw [deframeRun_of_stop (deframePass_of_empty (hib.trans hrest) (by rw [hsearch]; exact nofun))]

end

/-! ## The start and the end of a frame -/

section
variable {s : State} (h : s.BetweenFrames) {d : DState} (us rest : List Byte)
include h

/-- Where the sync is dropped, the frame starts with nothing collected or held (R38, R190, R210, R220, R230). -/
theorem State.BetweenFrames.dropSync {sync : List Byte} {n : Nat} (hsync : sync.length = n) :
    ((s.withIb (sync ++ us)).dropUnits n).expect d (expectedLength s.cfg d) = (s.withIb us).enter d [] [] [] [] := by
  have hs : s.endFrame = s := h
  rw [← hsync, State.dropUnits_eq_withIb (s := s.withIb (sync ++ us)) rfl, ← hs]
  rfl

theorem State.BetweenFrames.countDraw : s.countDraw.BetweenFrames := congrArg State.countDraw h

/-- A frame that ends without a record leaves IB with the rest alone (R163). -/
theorem State.BetweenFrames.endFrame_withIb : (s.withIb rest).endFrame = { s with ib := rest } :=
  congrArg (State.withIb rest) h

/-- A frame that ends with a record leaves that record and the rest (R163). -/
theorem State.BetweenFrames.endFrame_emit (r : Record) :
    ((s.withIb rest).emit r).endFrame = emitted s rest r :=
  congrArg (fun t => emitted t rest r) h

end

/-! ## M17 (R180 to R185) -/

section
variable {s : State} {sync : List Byte}

/-- M17 keeps the received sync in the frame (R180). -/
theorem State.BetweenFrames.keepSync (h : s.BetweenFrames) {d : DState} (hsync : sync.length = 2) (us : List Byte) :
    (s.withIb (sync ++ us)).keepSync.expect d (expectedLength s.cfg d) =
      (s.withIb us).enter d sync [] [] [] := by
  have hs : s.endFrame = s := h
  have htake : (sync ++ us).take 2 = sync := List.take_left' hsync
  have hdrop : (sync ++ us).drop 2 = us := List.drop_left' hsync
  rw [State.keepSync, State.withIb, htake, hdrop, ← hs]
  rfl

theorem onSync_m17Lsf (h : searching s 1) (hsync : sync.length = 2) (us : List Byte) :
    (s.withIb (sync ++ us)).onSync 0 = (s.withIb us).enter .m17Lsf sync [] [] [] :=
  (State.onSync_m17 (s := s.withIb (sync ++ us)) 0 (readyFor_of_searching (p := .m17) h).personality_eq).trans
    ((betweenFrames_of_searching (p := .m17) h).keepSync (d := .m17Lsf) hsync us)

theorem onSync_m17Pkt (h : searching s 1) (hsync : sync.length = 2) (us : List Byte) :
    (s.withIb (sync ++ us)).onSync 1 = (s.withIb us).enter .m17Pkt sync [] [] [] :=
  (State.onSync_m17 (s := s.withIb (sync ++ us)) 1 (readyFor_of_searching (p := .m17) h).personality_eq).trans
    ((betweenFrames_of_searching (p := .m17) h).keepSync (d := .m17Pkt) hsync us)

end

/-- Settles O36: sync, one collected part, one record. -/
theorem m17LsfFrameIsEmitted : Obligations.M17LsfFrameIsEmitted := by
  unfold Obligations.M17LsfFrameIsEmitted
  intro s pre sync body rest h hsync hbody hib hf
  simp only [List.append_assoc] at hib
  have hb := betweenFrames_of_searching (p := .m17) h
  have hlen : (sync ++ body).length = 48 := by simp [hsync, hbody]
  have hcomplete : ((s.withIb rest).enter .m17Lsf (sync ++ body) [] [] []).complete =
      emitted s rest (.frame .m17LsfStream (sync ++ body) []) :=
    (if_pos hlen).trans (hb.endFrame_emit rest _)
  refine runsThrough_of_deframeRun_eq (p := .m17) h rfl rfl rfl rfl rfl ?_
  rw [deframeRun_of_foundAfter (p := .m17) h hib hf, onSync_m17Lsf h hsync,
    deframeRun_enter_full rfl (List.length_append.symm.trans hlen), hcomplete]

/-- The loop takes a Packet frame of M17_MAXLEN bytes to its end (R180, R182). -/
theorem deframeRun_m17Pkt {s : State} {pre sync body rest : List Byte} (h : searching s 1)
    (hsync : sync.length = 2) (hbody : 2 + body.length = s.cfg.m17Maxlen.toNat)
    (hib : s.ib = pre ++ (sync ++ (body ++ rest))) (hf : foundAfter s .m17 pre 1) :
    deframeRun s = deframeRun (completeM17Pkt ((s.withIb rest).enter .m17Pkt (sync ++ body) [] [] [])) := by
  rw [deframeRun_of_foundAfter (p := .m17) h hib hf, onSync_m17Pkt h hsync]
  exact deframeRun_enter_full rfl (by rw [hsync, hbody]; rfl)

/-- Settles O37: sync, one collected part, and a record from 4 bytes on. -/
theorem m17PacketIsEmittedFromFourBytes : Obligations.M17PacketIsEmittedFromFourBytes := by
  unfold Obligations.M17PacketIsEmittedFromFourBytes
  intro s pre sync body rest h hsync hbody hib hf
  simp only [List.append_assoc] at hib
  have hb := betweenFrames_of_searching (p := .m17) h
  have hrun := deframeRun_m17Pkt h hsync hbody hib hf
  have hlen : (sync ++ body).length = s.cfg.m17Maxlen.toNat := by rw [List.length_append, hsync, hbody]
  refine ⟨fun hmax => ?_, fun hmax => ?_⟩
  · have hcomplete : completeM17Pkt ((s.withIb rest).enter .m17Pkt (sync ++ body) [] [] []) =
        emitted s rest (.frame .m17Packet (sync ++ body) []) :=
      (if_pos (hlen ▸ hmax)).trans (hb.endFrame_emit rest _)
    rw [hcomplete] at hrun
    exact runsThrough_of_deframeRun_eq (p := .m17) h rfl rfl rfl rfl rfl hrun
  · have hcomplete : completeM17Pkt ((s.withIb rest).enter .m17Pkt (sync ++ body) [] [] []) =
        { s with ib := rest } :=
      (if_neg (hlen ▸ Nat.not_le_of_lt hmax)).trans (hb.endFrame_withIb rest)
    rw [hcomplete] at hrun
    exact runsThrough_of_deframeRun_eq (p := .m17) h rfl rfl rfl rfl rfl hrun

/-- Settles O38: sync, and a part that IB does not complete. -/
theorem truncatedM17FrameEmitsNothing : Obligations.TruncatedM17FrameEmitsNothing := by
  unfold Obligations.TruncatedM17FrameEmitsNothing
  intro s pre sync body h hsync hbody hib hf
  rw [List.append_assoc] at hib
  have hs : s.endFrame = s := betweenFrames_of_searching (p := .m17) h
  refine (execRun_of_searching (p := .m17) h rfl).trans (congrArg _ ?_)
  rw [deframeRun_of_foundAfter (p := .m17) h hib hf, onSync_m17Lsf h hsync,
    deframeRun_enter_partial rfl (by rw [hsync]; exact hbody), ← hs]
  rfl

/-! ## D-STAR (R190 to R197) -/

section
variable {s : State} {us : List Byte}

theorem onSync_withIb_dstar {sync : List Byte} (h : searching s 2) (hsync : sync.length = 3) :
    (s.withIb (sync ++ us)).onSync 0 = (s.withIb us).enter .dstarSynced [] [] [] [] :=
  (State.onSync_dstar (s := s.withIb (sync ++ us)) 0 (readyFor_of_searching (p := .dstar) h).personality_eq).trans
    ((betweenFrames_of_searching (p := .dstar) h).dropSync (d := .dstarSynced) us hsync)

/-- With 41 bytes and more the header is collected (R191). -/
theorem deframeRun_chooses_header (h : 41 ≤ us.length) :
    deframeRun ((s.withIb us).enter .dstarSynced [] [] [] []) =
      deframeRun ((s.withIb us).enter .dstarHeader [] [] [] []) := by
  have hchoose : ((s.withIb us).enter .dstarSynced [] [] [] []).dstarChoose =
      some ((s.withIb us).enter .dstarHeader [] [] [] []) := if_pos h
  rw [deframeRun_eq, deframePass_of_chosen rfl hchoose]

/-- With 15 to 40 bytes a voice frame is collected (R191). -/
theorem deframeRun_chooses_voice (h : 15 ≤ us.length) (hlt : us.length < 41) :
    deframeRun ((s.withIb us).enter .dstarSynced [] [] [] []) =
      deframeRun ((s.withIb us).enter .dstarVoice [] [] [] []) := by
  have hchoose : ((s.withIb us).enter .dstarSynced [] [] [] []).dstarChoose =
      some ((s.withIb us).enter .dstarVoice [] [] [] []) :=
    (if_neg (Nat.not_le_of_lt hlt)).trans (if_pos h)
  rw [deframeRun_eq, deframePass_of_chosen rfl hchoose]

end

/-- The tags of a header by the bytes they lie between (R193). -/
theorem headerTags_eq (h : List Byte) : headerTags h =
    [.rpt2 (trim ((h.take 11).drop 3)), .rpt1 (trim ((h.take 19).drop 11)),
     .your (trim ((h.take 27).drop 19)), .my (trim ((h.take 35).drop 27)),
     .suffix (trim ((h.take 39).drop 35))] := by
  simp only [headerTags, headerField, List.drop_take]

/-- Settles O40: sync, the choice of the header, one collected part, one record. -/
theorem dstarHeaderIsEmitted : Obligations.DstarHeaderIsEmitted := by
  unfold Obligations.DstarHeaderIsEmitted
  intro s pre sync hd rest h hsync hlen hib hf
  simp only [List.append_assoc] at hib
  rw [← headerTags_eq]
  have hcomplete : ((s.withIb rest).enter .dstarHeader hd [] [] []).complete =
      emitted s rest (.frame .dstarHeader hd (headerTags hd)) :=
    (betweenFrames_of_searching (p := .dstar) h).endFrame_emit rest _
  refine runsThrough_of_deframeRun_eq (p := .dstar) h rfl rfl rfl rfl rfl ?_
  calc deframeRun s
    _ = deframeRun ((s.withIb (hd ++ rest)).enter .dstarSynced [] [] [] []) := by
      rw [deframeRun_of_foundAfter (p := .dstar) h hib hf, onSync_withIb_dstar h hsync]
    _ = deframeRun ((s.withIb (hd ++ rest)).enter .dstarHeader [] [] [] []) :=
      deframeRun_chooses_header (by rw [List.length_append]; omega)
    _ = deframeRun ((s.withIb rest).enter .dstarHeader hd [] [] []).complete :=
      deframeRun_enter_full rfl ((Nat.zero_add _).trans hlen)
    _ = _ := congrArg deframeRun hcomplete

/-- The end of a voice frame of 12 voice bytes and 3 slow-data bytes (R195). -/
theorem complete_dstarVoice {s : State} (h : s.BetweenFrames) {v sd : List Byte} (rest : List Byte)
    (hv : v.length = 12) (hsd : sd.length = 3) :
    ((s.withIb rest).enter .dstarVoice (v ++ sd) [] [] []).complete =
      emitted (s.setSdacc (sdAppend sd s.sdacc)) rest
        (.frame .dstarVoice v [.message (sdMessage (sdAppend sd s.sdacc))]) := by
  have hvoice : (v ++ sd).take 12 = v := List.take_left' hv
  have hslow : ((v ++ sd).drop 12).take 3 = sd := by rw [List.drop_left' hv, List.take_of_length_le hsd.le]
  have hstart : ((s.withIb rest).enter .dstarVoice (v ++ sd) [] [] []).complete =
      emitted (s.endFrame.setSdacc (sdAppend (((v ++ sd).drop 12).take 3) s.sdacc)) rest
        (.frame .dstarVoice ((v ++ sd).take 12)
          [.message (sdMessage (sdAppend (((v ++ sd).drop 12).take 3) s.sdacc))]) := rfl
  rw [hstart, hvoice, hslow, show s.endFrame = s from h]

/-- Settles O41: sync, the choice of a voice frame, one collected part, one record. -/
theorem dstarVoiceIsEmitted : Obligations.DstarVoiceIsEmitted := by
  unfold Obligations.DstarVoiceIsEmitted
  intro s pre sync v sd rest h hsync hv hsd hrest hib hf acc hacc
  obtain rfl : acc = sdAppend sd s.sdacc := hacc
  have hib : s.ib = pre ++ (sync ++ ((v ++ sd) ++ rest)) := by simpa using hib
  have hlen : (v ++ sd).length = 15 := by rw [List.length_append, hv, hsd]
  refine runsThrough_of_deframeRun_eq (p := .dstar) h rfl rfl rfl rfl rfl ?_
  calc deframeRun s
    _ = deframeRun ((s.withIb ((v ++ sd) ++ rest)).enter .dstarSynced [] [] [] []) := by
      rw [deframeRun_of_foundAfter (p := .dstar) h hib hf, onSync_withIb_dstar h hsync]
    _ = deframeRun ((s.withIb ((v ++ sd) ++ rest)).enter .dstarVoice [] [] [] []) :=
      deframeRun_chooses_voice (by rw [List.length_append]; omega) (by rw [List.length_append]; omega)
    _ = deframeRun ((s.withIb rest).enter .dstarVoice (v ++ sd) [] [] []).complete :=
      deframeRun_enter_full rfl ((Nat.zero_add _).trans hlen)
    _ = _ := congrArg deframeRun
      (complete_dstarVoice (betweenFrames_of_searching (p := .dstar) h) rest hv hsd)

/-! ## P25 (R210 to R214) -/

theorem onSync_withIb_p25 {s : State} {sync : List Byte} (h : searching s 3) (hsync : sync.length = 6)
    (us : List Byte) : (s.withIb (sync ++ us)).onSync 0 = (s.withIb us).enter .p25Nid [] [] [] [] :=
  (State.onSync_p25 (s := s.withIb (sync ++ us)) 0 (readyFor_of_searching (p := .p25) h).personality_eq).trans
    ((betweenFrames_of_searching (p := .p25) h).dropSync (d := .p25Nid) us hsync)

/-- The NAC is the low four bits of the seventh byte of the NID and the whole eighth (R212). -/
theorem nacOf_eq {nid : List Byte} (h : nid.length = 8) :
    nacOf nid = ((nid.getD 6 0 &&& 0x0F).setWidth 12 <<< 8) ||| (nid.getD 7 0).setWidth 12 := by
  have hfield : bytesField nid % 2 ^ 12 = ((nid.getD 6 0).toNat % 2 ^ 4) <<< 8 + (nid.getD 7 0).toNat := by
    match nid, h with
    | [a, b, c, d, e, f, x, y], _ =>
      simp [bytesField, Nat.shiftLeft_eq]
      omega
  have hlow : (nid.getD 7 0).toNat < 2 ^ 8 := (nid.getD 7 0).isLt
  have hnibble : (nid.getD 6 0 &&& 0x0F).toNat = (nid.getD 6 0).toNat % 2 ^ 4 :=
    Nat.and_two_pow_sub_one_eq_mod _ 4
  apply BitVec.eq_of_toNat_eq
  rw [nacOf, BitVec.toNat_ofNat, hfield, BitVec.toNat_or, BitVec.toNat_shiftLeft, BitVec.toNat_setWidth,
    BitVec.toNat_setWidth, hnibble, Nat.shiftLeft_add_eq_or_of_lt hlow,
    Nat.mod_eq_of_lt (a := (nid.getD 6 0).toNat % 2 ^ 4) (by omega),
    Nat.mod_eq_of_lt (a := _ <<< 8) (by rw [Nat.shiftLeft_eq]; omega),
    Nat.mod_eq_of_lt (a := (nid.getD 7 0).toNat) (by omega)]

/-- Settles O44: sync, three collected parts, and one record at the end of the third. -/
theorem p25FrameIsEmitted : Obligations.P25FrameIsEmitted := by
  unfold Obligations.P25FrameIsEmitted
  intro s pre sync nid ldu1 ldu2 rest h hsync hnid hldu1 hldu2 hib hf
  simp only [List.append_assoc] at hib
  rw [← nacOf_eq hnid]
  have hcomplete : ((s.withIb rest).enter .p25Ldu2 ldu2 nid ldu1 []).complete =
      emitted s rest (.frame .p25Voice ldu1 (p25Tags nid (Config.p25Fields ldu1 ldu2))) :=
    (betweenFrames_of_searching (p := .p25) h).endFrame_emit rest _
  refine runsThrough_of_deframeRun_eq (p := .p25) h rfl rfl rfl rfl rfl ?_
  calc deframeRun s
    _ = deframeRun ((s.withIb (nid ++ (ldu1 ++ (ldu2 ++ rest)))).enter .p25Nid [] [] [] []) := by
      rw [deframeRun_of_foundAfter (p := .p25) h hib hf, onSync_withIb_p25 h hsync]
    _ = deframeRun ((s.withIb (ldu1 ++ (ldu2 ++ rest))).enter .p25Ldu1 [] nid [] []) :=
      deframeRun_enter_full rfl ((Nat.zero_add _).trans hnid)
    _ = deframeRun ((s.withIb (ldu2 ++ rest)).enter .p25Ldu2 [] nid ldu1 []) :=
      deframeRun_enter_full rfl ((Nat.zero_add _).trans hldu1)
    _ = deframeRun ((s.withIb rest).enter .p25Ldu2 ldu2 nid ldu1 []).complete :=
      deframeRun_enter_full rfl ((Nat.zero_add _).trans hldu2)
    _ = _ := congrArg deframeRun hcomplete

/-! ## YSF (R220 to R223) -/

theorem onSync_withIb_ysf {s : State} {sync : List Byte} (h : searching s 4) (hsync : sync.length = 2)
    (us : List Byte) : (s.withIb (sync ++ us)).onSync 0 = (s.withIb us).enter .ysfFich [] [] [] [] :=
  (State.onSync_ysf (s := s.withIb (sync ++ us)) 0 (readyFor_of_searching (p := .ysf) h).personality_eq).trans
    ((betweenFrames_of_searching (p := .ysf) h).dropSync (d := .ysfFich) us hsync)

/-- The tags of a YSF record: the three fields, and at most a CALLSIGNS tag (R222, R223). -/
theorem ysfTags_eq (f : Config.FichFields) (draw : Option (List Byte)) : ∃ callsigns : List Tag,
    (callsigns = [] ∨ ∃ cs, callsigns = [.callsigns cs]) ∧
      ysfTags f draw = [.frameType f.frameType, .radioId f.radioId, .groupId f.groupId] ++ callsigns := by
  cases draw with
  | none => exact ⟨[], .inl rfl, rfl⟩
  | some cs => exact ⟨[.callsigns cs], .inr ⟨cs, rfl⟩, rfl⟩

/-- Settles O45: sync, two collected parts, and one record at the end of the second. -/
theorem ysfFrameIsEmitted : Obligations.YsfFrameIsEmitted := by
  unfold Obligations.YsfFrameIsEmitted
  intro s pre sync fich voice rest h hsync hfich hvoice hib hf
  simp only [List.append_assoc] at hib
  obtain ⟨callsigns, hcs, htags⟩ := ysfTags_eq (Config.ysfFichFields fich) (Config.ysfCallsigns s.channel s.draws)
  refine ⟨callsigns, hcs, ?_⟩
  rw [← htags]
  have hcomplete : ((s.withIb rest).enter .ysfVoice voice [] [] fich).complete =
      emitted s.countDraw rest (.frame .ysfVoice voice
        (ysfTags (Config.ysfFichFields fich) (Config.ysfCallsigns s.channel s.draws))) :=
    (betweenFrames_of_searching (p := .ysf) h).countDraw.endFrame_emit rest _
  refine runsThrough_of_deframeRun_eq (p := .ysf) h rfl rfl rfl rfl rfl ?_
  calc deframeRun s
    _ = deframeRun ((s.withIb (fich ++ (voice ++ rest))).enter .ysfFich [] [] [] []) := by
      rw [deframeRun_of_foundAfter (p := .ysf) h hib hf, onSync_withIb_ysf h hsync]
    _ = deframeRun ((s.withIb (voice ++ rest)).enter .ysfVoice [] [] [] fich) :=
      deframeRun_enter_full rfl ((Nat.zero_add _).trans hfich)
    _ = deframeRun ((s.withIb rest).enter .ysfVoice voice [] [] fich).complete :=
      deframeRun_enter_full rfl ((Nat.zero_add _).trans hvoice)
    _ = _ := congrArg deframeRun hcomplete

end Sys2Proof.Machine
end

section
/-! PROOFS. A whole POCSAG batch (R230 to R239): the codewords, classes, texts and pages of the model are those the
statements set down by positions and sums. -/

namespace Sys2Proof.Machine

open Sys2Proof.Claims

/-! ## Numbers from groups of bits (R64, R238) -/

theorem getD_take_drop {α : Type} (xs : List α) (a n : Nat) (x : α) {i : Nat} (h : i < n) :
    ((xs.drop a).take n).getD i x = xs.getD (a + i) x := by
  simp [List.getD_eq_getElem?_getD, h]

/-- The first unit most significant, as a sum over the positions. -/
theorem foldl_units_eq_sum (us : List Byte) (acc : Nat) :
    us.foldl (fun acc u => acc * 2 + u.toNat) acc = acc * 2 ^ us.length +
      ((List.range us.length).map (fun i => (us.getD i 0).toNat * 2 ^ (us.length - 1 - i))).sum := by
  induction us generalizing acc with
  | nil => simp
  | cons u us ih =>
    rw [List.foldl_cons, ih, List.length_cons, List.range_succ_eq_map]
    simp only [List.map_cons, List.map_map, List.sum_cons, Function.comp_def, List.getD_cons_zero,
      List.getD_cons_succ, Nat.add_sub_cancel, Nat.sub_zero, Nat.succ_eq_add_one, Nat.sub_sub, Nat.add_comm 1]
    ring

/-- The first bit least significant, as a sum over the positions. -/
theorem bitsLsbFirst_eq_sum (bs : List Bool) :
    bitsLsbFirst bs = ((List.range bs.length).map (fun i => (bs.getD i false).toNat * 2 ^ i)).sum := by
  induction bs with
  | nil => rfl
  | cons b bs ih =>
    have hcons : bitsLsbFirst (b :: bs) = b.toNat + bitsLsbFirst bs * 2 := rfl
    rw [hcons, ih, List.length_cons, List.range_succ_eq_map]
    simp only [List.map_cons, List.map_map, List.sum_cons, Function.comp_def, List.getD_cons_zero,
      List.getD_cons_succ, Nat.succ_eq_add_one, Nat.pow_zero, Nat.mul_one, Nat.pow_succ, ← Nat.mul_assoc,
      List.sum_map_mul_right]

/-! ## Codewords (R231, R233, R234) -/

theorem batchCodeword_eq {batch : List Byte} {k : Nat} (h : batch.length = 512) (hk : k < 16) :
    batchCodeword batch k = codewordAt batch k := by
  have hlen : ((batch.drop (32 * k)).take 32).length = 32 := by simp; omega
  unfold batchCodeword codewordAt unitsField
  rw [foldl_units_eq_sum, hlen, Nat.zero_mul, Nat.zero_add]
  refine congrArg (fun l : List Nat => BitVec.ofNat 32 l.sum) (List.map_congr_left fun i hi => ?_)
  rw [getD_take_drop batch _ _ _ (List.mem_range.mp hi)]

/-- The parity option on a codeword that is not ERR (R234). -/
theorem parityChecked_some (check : Bool) (cw : BitVec 32) : parityChecked check (some cw) =
    if check = true ∧ popcount cw % 2 = 1 then none else some cw := by
  rw [parityChecked]
  congr 1
  simp only [Bool.and_eq_true, decide_eq_true_eq]

/-- Stated between functions: with arguments, the kernel would start to compute the correction when `corrected` is
unfolded. -/
theorem corrected_eq_parityChecked :
    corrected = fun check batch k => parityChecked check (bchCorrect (codewordAt batch k)) := by
  delta corrected
  funext check batch k
  generalize bchCorrect (codewordAt batch k) = c
  cases c with
  | none => rfl
  | some cw => exact (parityChecked_some check cw).symm

/-- The codewords of a batch, by position. -/
theorem batchCodewords_eq (check : Bool) {batch : List Byte} (h : batch.length = 512) :
    batchCodewords check batch = (List.range' 0 16).map (corrected check batch) := by
  rw [batchCodewords, ← List.range_eq_range']
  refine List.map_congr_left fun k hk => ?_
  rw [corrected_eq_parityChecked, batchCodeword_eq h (List.mem_range.mp hk)]

/-! ## Classes (R235) -/

/-- A message codeword gives its data bits, bit 30 first; any other class ends the message (R235, R237). -/
theorem msgBits_eq (c : Option (BitVec 32)) : msgBits c = if isMsg c then some (dataBits c) else none := by
  cases c with
  | none => rfl
  | some cw =>
    have hdata : dataBits (some cw) = (List.range 20).map (fun j => cw.getLsbD (30 - j)) := List.map_map
    rw [hdata]
    unfold msgBits isMsg idleCodeword
    by_cases hidle : cw = 0x7A89C197#32 <;> simp [hidle]

theorem isAddr_some_iff (cw : BitVec 32) : isAddr (some cw) = true ↔ cw ≠ 0x7A89C197 ∧ cw.getLsbD 31 = false := by
  simp [isAddr, idleCodeword]

/-! ## Messages (R237, R238) -/

/-- The message bits of the codewords from position `j` on. -/
theorem messageBits_eq (c : Nat → Option (BitVec 32)) (n j : Nat) :
    messageBits ((List.range' j n).map c) = followingBits c n j := by
  induction n generalizing j with
  | zero => rfl
  | succ n ih =>
    rw [List.range'_succ, List.map_cons, followingBits, msgBits_eq, ← ih]
    unfold messageBits
    cases h : isMsg (c j) <;> simp [h]

/-- The characters of a message, seven bits each. -/
theorem pageText_eq (bits : List Bool) : pageText bits = textOf bits := by
  unfold pageText fullGroups textOf
  rw [List.map_map]
  refine List.map_congr_left fun m hm => ?_
  have hm : m < bits.length / 7 := List.mem_range.mp hm
  have hlen : ((bits.drop (7 * m)).take 7).length = 7 := by simp; omega
  rw [Function.comp_apply, bitsLsbFirst_eq_sum, hlen]
  congr 2
  refine List.map_congr_left fun i hi => ?_
  rw [getD_take_drop bits _ _ _ (List.mem_range.mp hi)]

/-! ## Pages (R236, R239) -/

theorem pageAddress_eq {k : Nat} (hk : k < 16) (cw : BitVec 32) :
    pageAddress k cw = BitVec.ofNat 21 (8 * (cw.toNat / 2 ^ 13 % 2 ^ 18) + k / 2) := by
  have hframe : k / 2 < 2 ^ 3 := by omega
  have hor := Nat.shiftLeft_add_eq_or_of_lt hframe (cw.toNat / 2 ^ 13 % 2 ^ 18)
  apply BitVec.eq_of_toNat_eq
  rw [pageAddress, BitVec.toNat_or, BitVec.toNat_shiftLeft, BitVec.toNat_setWidth, BitVec.extractLsb'_toNat,
    BitVec.toNat_ofNat, BitVec.toNat_ofNat, Nat.shiftRight_eq_div_pow]
  rw [Nat.shiftLeft_eq] at hor ⊢
  rw [Nat.mod_eq_of_lt (a := cw.toNat / 2 ^ 13 % 2 ^ 18) (by omega), Nat.mod_eq_of_lt (a := _ * _) (by omega),
    Nat.mod_eq_of_lt (a := k / 2) (by omega), ← hor]
  omega

theorem pageFunction_eq (cw : BitVec 32) : pageFunction cw = BitVec.ofNat 2 (cw.toNat / 2 ^ 11) := by
  apply BitVec.eq_of_toNat_eq
  rw [pageFunction, BitVec.extractLsb'_toNat, BitVec.toNat_ofNat, Nat.shiftRight_eq_div_pow]

/-- The first of the codewords from position `k` on gives its page, if it has one (R231, R239). -/
theorem batchRecords_cons (c : Nat → Option (BitVec 32)) {k n : Nat} (hn : k + n = 15) :
    batchRecords k (c k :: (List.range' (k + 1) n).map c) =
      pageAt c k ++ batchRecords (k + 1) ((List.range' (k + 1) n).map c) := by
  unfold pageAt
  cases c k with
  | none => rfl
  | some cw =>
    simp only [batchRecords, isAddr_some_iff]
    split
    · rw [pageRecord, messageBits_eq, pageText_eq, pageAddress_eq (by omega), pageFunction_eq,
        show 15 - k = n by omega]
      rfl
    · rfl

/-- The records of the codewords from position `k` to the end of the batch (R231). -/
theorem batchRecords_eq (c : Nat → Option (BitVec 32)) {k n : Nat} (hn : k + n = 16) :
    batchRecords k ((List.range' k n).map c) = (List.range' k n).flatMap (pageAt c) := by
  induction n generalizing k with
  | zero => rfl
  | succ n ih =>
    rw [List.range'_succ, List.map_cons, List.flatMap_cons, batchRecords_cons c (by omega), ih (by omega)]

/-! ## The batch (R230, R231) -/

theorem onSync_withIb_pocsag {s : State} {sync : List Byte} (h : searching s 5) (hsync : sync.length = 32)
    (us : List Byte) : (s.withIb (sync ++ us)).onSync 0 = (s.withIb us).enter .pocsagBatch [] [] [] [] :=
  (State.onSync_pocsag (s := s.withIb (sync ++ us)) 0
      (readyFor_of_searching (p := .pocsag) h).personality_eq).trans
    ((betweenFrames_of_searching (p := .pocsag) h).dropSync (d := .pocsagBatch) us hsync)

/-- The end of a batch emits its records (R231). -/
theorem complete_pocsagBatch {s : State} (h : s.BetweenFrames) {batch : List Byte} (rest : List Byte)
    (hlen : batch.length = 512) {recs : List Record}
    (hrecs : recs = (List.range 16).flatMap (pageAt (corrected s.params.checkParity batch))) :
    ((s.withIb rest).enter .pocsagBatch batch [] [] []).complete =
      { s with ib := rest, out := s.out ++ recs, outCount := s.outCount + BitVec.ofNat 24 recs.length } := by
  have hs : s.endFrame = s := h
  have hbatch : batchRecords 0 (batchCodewords s.params.checkParity batch) = recs := by
    rw [batchCodewords_eq _ hlen, batchRecords_eq _ rfl, hrecs, List.range_eq_range']
  have hcomplete : ((s.withIb rest).enter .pocsagBatch batch [] [] []).complete =
      (((s.withIb rest).enter .pocsagBatch batch [] [] []).emitAll
        (batchRecords 0 (batchCodewords s.params.checkParity batch))).endFrame := rfl
  rw [hcomplete, hbatch, State.emitAll_eq]
  exact congrArg (fun t : State => { t with
    ib := rest, out := t.out ++ recs, outCount := t.outCount + BitVec.ofNat 24 recs.length }) hs

/-- Settles O46: sync, one collected part, and its pages. -/
theorem pocsagBatchEmitsItsPages : Obligations.PocsagBatchEmitsItsPages := by
  unfold Obligations.PocsagBatchEmitsItsPages
  intro s pre sync batch rest h hsync hlen hib hf recs hrecs
  simp only [List.append_assoc] at hib
  refine runsThrough_of_deframeRun_eq (p := .pocsag) h rfl rfl rfl rfl rfl ?_
  calc deframeRun s
    _ = deframeRun ((s.withIb (batch ++ rest)).enter .pocsagBatch [] [] [] []) := by
      rw [deframeRun_of_foundAfter (p := .pocsag) h hib hf, onSync_withIb_pocsag h hsync]
    _ = deframeRun ((s.withIb rest).enter .pocsagBatch batch [] [] []).complete :=
      deframeRun_enter_full rfl ((Nat.zero_add _).trans hlen)
    _ = _ := congrArg deframeRun
      (complete_pocsagBatch (betweenFrames_of_searching (p := .pocsag) h) rest hlen hrecs)

end Sys2Proof.Machine
end

section
/-! PROOFS. The D-STAR deframer (44_dstar.md): the choice of header or voice by the bytes in IB (R191), the trimmed
header fields (R194) and the slow-data message (R198). -/

namespace Sys2Proof.Machine

/-! ## The choice (R191) -/

section
variable {s t : State}

/-- RUN goes on from the choice it makes. -/
theorem deframeRun_of_chosen (hd : s.dstate = .dstarSynced) (h : s.dstarChoose = some t) :
    deframeRun s = deframeRun t := by
  rw [deframeRun_eq, deframePass_of_chosen hd h]

/-- With too few bytes for either, RUN ends where it began. -/
theorem deframeRun_of_not_chosen (hd : s.dstate = .dstarSynced) (h : s.dstarChoose = none) : deframeRun s = s :=
  deframeRun_of_stop (by simp only [deframePass, hd, choosePass, h])

end

/-- Settles O39, by the three outcomes of the choice. -/
theorem dstarChoosesByBytesAvailable : Obligations.DstarChoosesByBytesAvailable := by
  unfold Obligations.DstarChoosesByBytesAvailable
  intro s hinv hl hd
  obtain ⟨p, hp⟩ := hinv.ready hl
  have hpers := hp.personality_eq
  obtain rfl : p = .dstar := by simpa [hd, DState.fits] using hp.dstate_fits
  have hrun : execRun s = .next (deframeRun s) := execRun_sync hl hpers rfl
  have hgoesOn : ∀ d n, s.dstarChoose = some (s.expect d n) → execRun s = execRun (s.expect d n) := fun d n hc => by
    rw [hrun, deframeRun_of_chosen hd hc, execRun_sync (s := s.expect d n) hl hpers rfl]
  rcases s.dstarChoose_cases with ⟨h41, hc⟩ | ⟨h15, h41, hc⟩ | ⟨h15, hc⟩
  · exact ⟨fun _ => hgoesOn _ _ hc, by omega, by omega⟩
  · exact ⟨by omega, fun _ _ => hgoesOn _ _ hc, by omega⟩
  · refine ⟨by omega, by omega, fun _ => hrun.trans ?_⟩
    rw [deframeRun_of_not_chosen hd hc]

/-! ## Trimmed fields (R194) -/

/-- The byte that `trim` takes away. -/
def isSpace (b : Byte) : Bool := b == 0x20

theorem isSpace_iff (b : Byte) : isSpace b = true ↔ b = 0x20 := beq_iff_eq

theorem trim_eq_rdropWhile (bs : List Byte) : trim bs = bs.rdropWhile isSpace := rfl

/-- Settles O42: what `trim` takes away is the longest end of spaces. -/
theorem trimRemovesTrailingSpaces : Obligations.TrimRemovesTrailingSpaces := by
  unfold Obligations.TrimRemovesTrailingSpaces
  intro bs
  have hspaces : ∀ b ∈ bs.rtakeWhile isSpace, b = 0x20 := fun b hb =>
    (isSpace_iff b).mp (List.mem_rtakeWhile_imp hb)
  refine ⟨(bs.rtakeWhile isSpace).length, ?_, fun hlast => ?_⟩
  · rw [trim_eq_rdropWhile, ← List.eq_replicate_of_mem hspaces, List.rdropWhile_append_rtakeWhile]
  · obtain ⟨hne, hspace⟩ := List.mem_getLast?_eq_getLast hlast
    exact List.rdropWhile_last_not _ _ hne ((isSpace_iff _).mpr hspace.symm)

/-! ## The slow-data message (R198) -/

/-- The first bit most significant, as a sum over the positions. -/
theorem bitsMsbFirst_eq_sum (bs : List Bool) : bitsMsbFirst bs =
    ((List.range bs.length).map (fun i => (bs.getD i false).toNat * 2 ^ (bs.length - 1 - i))).sum := by
  have hbit : ∀ b : Bool, (BitVec.ofNat 8 b.toNat).toNat = b.toNat := by decide
  have hget : ∀ i, ((bs.map (fun b => BitVec.ofNat 8 b.toNat)).getD i 0).toNat = (bs.getD i false).toNat :=
    fun i => (congrArg BitVec.toNat (List.getD_map bs false (fun b => BitVec.ofNat 8 b.toNat))).trans (hbit _)
  have hunits := foldl_units_eq_sum (bs.map (fun b => BitVec.ofNat 8 b.toNat)) 0
  simpa only [bitsMsbFirst, List.foldl_map, hbit, List.length_map, hget, Nat.zero_mul, Nat.zero_add] using hunits

/-- The value of group `k` of SDACC, by the places of its bits. -/
def sdChar (acc : List Bool) (k : Nat) : Nat :=
  ((List.range 7).map (fun i => (acc.getD (7 * k + i) false).toNat * 2 ^ (6 - i))).sum

theorem map_bitsMsbFirst_fullGroups (acc : List Bool) :
    (fullGroups 7 acc).map bitsMsbFirst = (List.range (acc.length / 7)).map (sdChar acc) := by
  rw [fullGroups, List.map_map]
  refine List.map_congr_left fun k hk => ?_
  have hk : k < acc.length / 7 := List.mem_range.mp hk
  have hlen : ((acc.drop (7 * k)).take 7).length = 7 := by simp; omega
  rw [Function.comp_apply, bitsMsbFirst_eq_sum, hlen, sdChar]
  refine congrArg List.sum (List.map_congr_left fun i hi => ?_)
  rw [getD_take_drop acc _ _ _ (List.mem_range.mp hi)]

theorem printable_iff (c : Nat) : printable c = true ↔ 0x20 ≤ c ∧ c ≤ 0x7E := by
  simp [printable]

/-- The values of `f` from 0 on, as long as they satisfy `p`: up to `n`, or to the first that does not. -/
theorem takeWhile_map_range {α : Type} (p : α → Bool) (f : Nat → α) (n : Nat) :
    ∃ m, m ≤ n ∧ ((List.range n).map f).takeWhile p = (List.range m).map f ∧
      (∀ k, k < m → p (f k) = true) ∧ (m < n → p (f m) = false) := by
  have hle := List.findIdx_le_length (p := fun k => !p (f k)) (xs := List.range n)
  rw [List.length_range] at hle
  refine ⟨_, hle, ?_, fun k hk => ?_, fun hlt => ?_⟩
  · rw [List.takeWhile_map, List.takeWhile_eq_take_findIdx_not, List.take_range]
    exact congrArg (fun m => (List.range m).map f) (Nat.min_eq_left hle)
  · simpa using List.not_of_lt_findIdx hk
  · have hstop := List.findIdx_getElem (w := hlt.trans_eq List.length_range.symm)
    rw [List.getElem_range] at hstop
    simpa using hstop

/-- The message is the first `m` groups, all printable; where groups are left, the next is not printable. -/
theorem sdMessage_cases (acc : List Bool) : ∃ m, m ≤ acc.length / 7 ∧
    sdMessage acc = (List.range m).map (fun k => BitVec.ofNat 8 (sdChar acc k)) ∧
    (∀ k, k < m → printable (sdChar acc k) = true) ∧
    (m < acc.length / 7 → printable (sdChar acc m) = false) := by
  obtain ⟨m, hm, htake, hprint, hstop⟩ := takeWhile_map_range printable (sdChar acc) (acc.length / 7)
  refine ⟨m, hm, ?_, hprint, hstop⟩
  rw [sdMessage, map_bitsMsbFirst_fullGroups, htake, List.map_map]
  rfl

/-- Settles O43: a printable value fits a byte, so each character is the value of its group. -/
theorem slowDataMessageStopsAtUnprintable : Obligations.SlowDataMessageStopsAtUnprintable := by
  unfold Obligations.SlowDataMessageStopsAtUnprintable
  intro acc char
  have hchar : char = sdChar acc := rfl
  obtain ⟨m, hm, hmsg, hprint, hstop⟩ := sdMessage_cases acc
  have hlen : (sdMessage acc).length = m := by simp [hmsg]
  rw [hlen, hchar]
  refine ⟨hm, fun k hk => ?_, fun hlt => ?_⟩
  · have hc := (printable_iff _).mp (hprint k hk)
    have hget : (sdMessage acc).getD k 0 = BitVec.ofNat 8 (sdChar acc k) := by simp [hmsg, hk]
    refine ⟨?_, hc⟩
    rw [hget, BitVec.toNat_ofNat, Nat.mod_eq_of_lt (by omega)]
  · have hc := mt (printable_iff _).mpr (Bool.eq_false_iff.mp (hstop hlt))
    omega

end Sys2Proof.Machine
end

section
/-! PROOFS. The BCH(31,21) code of POCSAG (R233, R242, R244): the division by the generator, the syndrome as a linear
map, what a single error does to a codeword, and the address of a codeword by its position (R236, R241). -/

namespace Sys2Proof.Machine

open Sys2Proof.Claims

/-! ## The division by the generator (R233) -/

/-- The first `n` steps of the division: the degrees from 30 down. -/
def bchReduce (n : Nat) (v : BitVec 31) : BitVec 31 := ((List.range n).map (fun j => 30 - j)).foldl bchStep v

theorem syn_eq_bchReduce (cw : BitVec 32) : syn cw = (bchReduce 21 (cw.extractLsb' 1 31)).setWidth 10 := rfl

@[simp] theorem bchReduce_zero (v : BitVec 31) : bchReduce 0 v = v := rfl

theorem bchReduce_succ (n : Nat) (v : BitVec 31) : bchReduce (n + 1) v = bchStep (bchReduce n v) (30 - n) := by
  simp [bchReduce, List.range_succ]

theorem xor_xor_xor_comm {w : Nat} (a b c d : BitVec w) : a ^^^ b ^^^ (c ^^^ d) = a ^^^ c ^^^ (b ^^^ d) := by ac_rfl

theorem bchStep_xor (v w : BitVec 31) (i : Nat) : bchStep (v ^^^ w) i = bchStep v i ^^^ bchStep w i := by
  simp only [bchStep, BitVec.getLsbD_xor]
  cases v.getLsbD i <;> cases w.getLsbD i
  · rfl
  · exact BitVec.xor_assoc ..
  · change v ^^^ w ^^^ _ = v ^^^ _ ^^^ w
    ac_rfl
  · change v ^^^ w = v ^^^ _ ^^^ (w ^^^ _)
    rw [xor_xor_xor_comm, BitVec.xor_self, BitVec.xor_zero]

theorem bchReduce_xor (n : Nat) (v w : BitVec 31) : bchReduce n (v ^^^ w) = bchReduce n v ^^^ bchReduce n w := by
  induction n with
  | zero => rfl
  | succ n ih => rw [bchReduce_succ, ih, bchStep_xor, ← bchReduce_succ, ← bchReduce_succ]

/-- The generator has degree 10. -/
theorem bchPoly_getLsbD {j : Nat} (h : 10 ≤ j) : bchPoly.getLsbD j = decide (j = 10) := by
  obtain rfl | h : j = 10 ∨ 10 < j := by omega
  · rfl
  · have hlt : bchPoly.toNat < 2 ^ j :=
      Nat.lt_of_lt_of_le (by decide : bchPoly.toNat < 2 ^ 11) (Nat.pow_le_pow_right (by omega) h)
    rw [BitVec.getLsbD, Nat.testBit_lt_two_pow hlt, decide_eq_false (by omega)]

/-- A step at degree `i` clears the coefficient of x^i and touches none above it. -/
theorem bchStep_getLsbD {v : BitVec 31} {i : Nat} (h10 : 10 ≤ i) (hv : ∀ j, i < j → v.getLsbD j = false) {j : Nat}
    (hj : i ≤ j) : (bchStep v i).getLsbD j = false := by
  by_cases hlt : j < 31
  · have hg : (bchPoly <<< (i - 10)).getLsbD j = decide (j = i) := by
      rw [BitVec.getLsbD_shiftLeft, bchPoly_getLsbD (by omega), decide_eq_true hlt, decide_eq_false (by omega)]
      exact decide_eq_decide.mpr (by omega)
    obtain rfl | hne := eq_or_ne j i
    · cases hvi : v.getLsbD j <;> simp [bchStep, hvi, hg]
    · have hvj := hv j (by omega)
      cases hvi : v.getLsbD i <;> simp [bchStep, hvi, hg, hvj, hne]
  · exact BitVec.getLsbD_of_ge _ _ (by omega)

/-- After `n` steps the `n` highest coefficients are gone. -/
theorem bchReduce_getLsbD {n : Nat} (hn : n ≤ 21) (v : BitVec 31) {j : Nat} (hj : 31 - n ≤ j) :
    (bchReduce n v).getLsbD j = false := by
  induction n generalizing j with
  | zero => exact BitVec.getLsbD_of_ge _ _ hj
  | succ n ih =>
    rw [bchReduce_succ]
    exact bchStep_getLsbD (by omega) (fun k hk => ih (by omega) (by omega)) (by omega)

/-- The syndrome keeps the whole remainder: its degree is below 10. -/
theorem setWidth_syn (cw : BitVec 32) : (syn cw).setWidth 31 = bchReduce 21 (cw.extractLsb' 1 31) := by
  refine BitVec.eq_of_getLsbD_eq fun j hj => ?_
  rw [syn_eq_bchReduce, BitVec.getLsbD_setWidth, BitVec.getLsbD_setWidth, decide_eq_true hj, Bool.true_and]
  by_cases hlow : j < 10
  · rw [decide_eq_true hlow, Bool.true_and]
  · rw [decide_eq_false hlow, Bool.false_and, bchReduce_getLsbD (Nat.le_refl _) _ (by omega)]

/-! ## Multiples of the generator -/

/-- The sum over GF(2) of one polynomial per degree is additive in the polynomials. -/
theorem foldl_xor_map_xor {w : Nat} (f g : Nat → BitVec w) (is : List Nat) (a b : BitVec w) :
    (is.map (fun i => f i ^^^ g i)).foldl (· ^^^ ·) (a ^^^ b) =
      (is.map f).foldl (· ^^^ ·) a ^^^ (is.map g).foldl (· ^^^ ·) b := by
  induction is generalizing a b with
  | nil => rfl
  | cons i is ih =>
    simp only [List.map_cons, List.foldl_cons]
    rw [xor_xor_xor_comm, ih]

theorem timesGenerator_xor (q r : BitVec 21) : timesGenerator (q ^^^ r) = timesGenerator q ^^^ timesGenerator r := by
  unfold timesGenerator
  refine Eq.trans ?_ (foldl_xor_map_xor _ _ _ 0 0)
  refine congrArg (fun l => List.foldl (· ^^^ ·) (0 : BitVec 31) l) (List.map_congr_left fun i _ => ?_)
  rw [BitVec.getLsbD_xor]
  cases q.getLsbD i <;> cases r.getLsbD i <;> simp

/-- x^i times the generator. -/
theorem timesGenerator_shift {i : Nat} (h : i < 21) : timesGenerator (1#21 <<< i) = bchPoly <<< i := by
  have hall : ∀ i : Fin 21, timesGenerator (1#21 <<< i.val) = bchPoly <<< i.val := by decide +kernel
  exact hall ⟨i, h⟩

/-- A step subtracts a multiple of the generator. -/
theorem bchStep_multiple (v : BitVec 31) {i : Nat} (hi : i ≤ 30) : ∃ q, v = timesGenerator q ^^^ bchStep v i := by
  unfold bchStep
  split
  · refine ⟨1#21 <<< (i - 10), ?_⟩
    rw [timesGenerator_shift (by omega), BitVec.xor_comm, BitVec.xor_assoc, BitVec.xor_self, BitVec.xor_zero]
  · exact ⟨0, (BitVec.zero_xor).symm⟩

/-- So do any number of steps. -/
theorem bchReduce_multiple (n : Nat) (v : BitVec 31) : ∃ q, v = timesGenerator q ^^^ bchReduce n v := by
  induction n with
  | zero => exact ⟨0, (BitVec.zero_xor).symm⟩
  | succ n ih =>
    obtain ⟨q, hq⟩ := ih
    obtain ⟨r, hr⟩ := bchStep_multiple (bchReduce n v) (Nat.sub_le 30 n)
    refine ⟨q ^^^ r, ?_⟩
    rw [timesGenerator_xor, BitVec.xor_assoc, bchReduce_succ, ← hr, ← hq]

/-! ## The syndrome (R233, R242) -/

theorem syn_xor (x y : BitVec 32) : syn (x ^^^ y) = syn x ^^^ syn y := by
  have hextract : (x ^^^ y).extractLsb' 1 31 = x.extractLsb' 1 31 ^^^ y.extractLsb' 1 31 := BitVec.extractLsb'_xor
  rw [syn_eq_bchReduce, hextract, bchReduce_xor, BitVec.setWidth_xor, ← syn_eq_bchReduce, ← syn_eq_bchReduce]

/-- Bit 0 is not part of the BCH word. -/
theorem syn_one : syn 1#32 = 0 := by decide +kernel

/-- Each of the 32 bits has a syndrome of its own. -/
theorem nodup_syn_bits : ((List.range 32).map (fun p => syn (1#32 <<< p))).Nodup := by decide +kernel

theorem syn_bit_injective {p q : Nat} (hp : p ≤ 31) (hq : q ≤ 31) (h : syn (1#32 <<< p) = syn (1#32 <<< q)) : p = q :=
  List.inj_on_of_nodup_map nodup_syn_bits (List.mem_range.mpr (by omega)) (List.mem_range.mpr (by omega)) h

/-- Bit 0 alone has the syndrome 0. -/
theorem syn_bit_ne_zero {p : Nat} (h1 : 1 ≤ p) (hp : p ≤ 31) : syn (1#32 <<< p) ≠ 0 := fun h => by
  have := syn_bit_injective hp (Nat.zero_le 31) (h.trans syn_one.symm)
  omega

/-- A flip of bit `p` makes a valid codeword exactly of the words with that bit's syndrome. -/
theorem syn_flip_eq_zero_iff (cw : BitVec 32) (p : Nat) : syn (cw ^^^ 1#32 <<< p) = 0 ↔ syn cw = syn (1#32 <<< p) := by
  rw [syn_xor]
  exact BitVec.xor_eq_zero_iff

/-- At most one flip makes a word a valid codeword. -/
theorem flip_unique {cw : BitVec 32} {p q : Nat} (hp : p ≤ 31) (hq : q ≤ 31) (hcp : syn (cw ^^^ 1#32 <<< p) = 0)
    (hcq : syn (cw ^^^ 1#32 <<< q) = 0) : p = q :=
  syn_bit_injective hp hq
    (((syn_flip_eq_zero_iff cw p).mp hcp).symm.trans ((syn_flip_eq_zero_iff cw q).mp hcq))

/-- Settles O47: the syndrome is the remainder of the division, and it is linear with 32 distinct values at the
single bits. -/
theorem syndromesSingleOutOneBit : Obligations.SyndromesSingleOutOneBit := by
  unfold Obligations.SyndromesSingleOutOneBit
  refine ⟨fun cw => ?_, syn_xor, fun p q _ hpq hq h => ?_, fun p h1 hp => syn_bit_ne_zero h1 hp,
    fun cw p q _ hp _ hq hcp hcq => flip_unique (by omega) (by omega) hcp hcq⟩
  · rw [setWidth_syn]
    exact bchReduce_multiple 21 _
  · exact absurd (syn_bit_injective (by omega) hq h) (by omega)

/-! ## The correction (R233) -/

theorem mem_bchCandidates {p : Nat} : p ∈ bchCandidates ↔ 11 ≤ p ∧ p ≤ 30 := by
  rw [bchCandidates, List.mem_map]
  constructor
  · rintro ⟨j, hj, rfl⟩
    have := List.mem_range.mp hj
    omega
  · rintro ⟨hlo, hhi⟩
    exact ⟨30 - p, List.mem_range.mpr (by omega), by omega⟩

theorem bchCorrect_of_syn_eq_zero {cw : BitVec 32} (h : syn cw = 0) : bchCorrect cw = some cw := if_pos h

/-- ERR: the word is not valid and no candidate makes it valid. -/
theorem bchCorrect_eq_none {cw : BitVec 32} (h : syn cw ≠ 0)
    (hno : ∀ p, 11 ≤ p → p ≤ 30 → syn (cw ^^^ 1#32 <<< p) ≠ 0) : bchCorrect cw = none := by
  rcases bchCorrect_cases cw with ⟨h0, _⟩ | ⟨_, p, hp, hfix, _⟩ | ⟨_, _, hnone⟩
  · exact absurd h0 h
  · obtain ⟨hlo, hhi⟩ := mem_bchCandidates.mp hp
    exact absurd hfix (hno p hlo hhi)
  · exact hnone

/-- A candidate that makes the word valid is the one that is flipped, as no other does. -/
theorem bchCorrect_eq_flip {cw : BitVec 32} {p : Nat} (hlo : 11 ≤ p) (hhi : p ≤ 30)
    (hfix : syn (cw ^^^ 1#32 <<< p) = 0) : bchCorrect cw = some (cw ^^^ 1#32 <<< p) := by
  rcases bchCorrect_cases cw with ⟨h0, _⟩ | ⟨_, q, hq, hfix', hsome⟩ | ⟨_, hno, _⟩
  · have hbit := (syn_flip_eq_zero_iff cw p).mp hfix
    exact absurd (hbit.symm.trans h0) (syn_bit_ne_zero (by omega) (by omega))
  · obtain ⟨_, hq30⟩ := mem_bchCandidates.mp hq
    obtain rfl : p = q := flip_unique (by omega) (by omega) hfix hfix'
    exact hsome
  · exact absurd hfix (hno p (mem_bchCandidates.mpr ⟨hlo, hhi⟩))

section
variable {cw : BitVec 32} {p : Nat}

/-- A single error leaves the syndrome of its bit. -/
theorem syn_codeword_flip (h : syn cw = 0) (p : Nat) : syn (cw ^^^ 1#32 <<< p) = syn (1#32 <<< p) := by
  rw [syn_xor, h]
  exact BitVec.zero_xor

/-- A data bit in error is put back. -/
theorem bchCorrect_dataBit_error (h : syn cw = 0) (hlo : 11 ≤ p) (hhi : p ≤ 30) :
    bchCorrect (cw ^^^ 1#32 <<< p) = some cw := by
  have hback : cw ^^^ 1#32 <<< p ^^^ 1#32 <<< p = cw := by
    rw [BitVec.xor_assoc, BitVec.xor_self, BitVec.xor_zero]
  have hfix : syn (cw ^^^ 1#32 <<< p ^^^ 1#32 <<< p) = 0 := hback.symm ▸ h
  exact (bchCorrect_eq_flip hlo hhi hfix).trans (congrArg some hback)

/-- The flag or a check bit in error is seen, and no candidate has its syndrome. -/
theorem bchCorrect_otherBit_error (h : syn cw = 0) (hp : (1 ≤ p ∧ p ≤ 10) ∨ p = 31) :
    bchCorrect (cw ^^^ 1#32 <<< p) = none := by
  have hsyn := syn_codeword_flip h p
  refine bchCorrect_eq_none ?_ fun q hlo hhi hfix => ?_
  · rw [hsyn]
    exact syn_bit_ne_zero (by omega) (by omega)
  · have hbits := hsyn.symm.trans ((syn_flip_eq_zero_iff _ q).mp hfix)
    have := syn_bit_injective (by omega) (by omega) hbits
    omega

/-- An error in bit 0 is not seen. -/
theorem bchCorrect_bit0_error (h : syn cw = 0) : bchCorrect (cw ^^^ 1#32) = some (cw ^^^ 1#32) :=
  bchCorrect_of_syn_eq_zero ((syn_codeword_flip h 0).trans syn_one)

end

/-- Settles O48: the ranges of the bit in error, by its syndrome. -/
theorem singleErrorsAreCorrectedInTheDataBits : Obligations.SingleErrorsAreCorrectedInTheDataBits := by
  unfold Obligations.SingleErrorsAreCorrectedInTheDataBits
  exact ⟨fun cw h => ⟨bchCorrect_of_syn_eq_zero h, fun p hlo hhi => bchCorrect_dataBit_error h hlo hhi,
    fun p hp => bchCorrect_otherBit_error h hp, bchCorrect_bit0_error h⟩, fun cw => bchCorrect_eq_none⟩

/-! ## The source's constants (R244) -/

/-- Settles O49: the model's syndrome and count of ones at the two words. -/
theorem sourceConstantsAreCodewords : Obligations.SourceConstantsAreCodewords := by
  unfold Obligations.SourceConstantsAreCodewords
  refine ⟨?synSync, ?synIdle, ?onesSync, ?onesIdle, ?flagSync, ?flagIdle, ?distance⟩
  case synSync | synIdle => decide +kernel
  case onesSync | onesIdle | flagSync | flagIdle | distance => decide

/-! ## The address (R236, R241) -/

theorem pageAddress_toNat {k : Nat} (hk : k < 16) (cw : BitVec 32) :
    (pageAddress k cw).toNat = 8 * (cw.toNat / 2 ^ 13 % 2 ^ 18) + k / 2 := by
  rw [pageAddress_eq hk, BitVec.toNat_ofNat]
  omega

theorem pageFunction_toNat (cw : BitVec 32) : (pageFunction cw).toNat = cw.toNat / 2 ^ 11 % 4 := by
  rw [pageFunction_eq, BitVec.toNat_ofNat]

/-- Settles O50: the address as a number; the example's bits 30 to 13 are 0, so its address is the frame. -/
theorem addressTakesItsFrameNumber : Obligations.AddressTakesItsFrameNumber := by
  unfold Obligations.AddressTakesItsFrameNumber
  refine ⟨fun k cw hk => ⟨pageAddress_toNat hk cw, pageFunction_toNat cw⟩, fun k hk => ?_⟩
  have haddr : (pageAddress k 0x00001DA5).toNat = k / 2 := (pageAddress_toNat hk _).trans (Nat.zero_add _)
  rw [← BitVec.toNat_inj, haddr]
  change k / 2 = 5 ↔ _
  omega

end Sys2Proof.Machine
end

section
/-! PROOFS. The DSSS spreader and correlator (R250 to R262): the records of a RUN, the bit that comes back, and the
bounds of the correlation values. -/

namespace Sys2Proof.Machine

open Sys2Proof.Claims

/-! ## A constructed DSSS channel (R114) -/

section
variable {s : State} {p : Personality}

/-- The personality of a constructed channel is the one of its PROTO. -/
theorem State.Inv.readyFor (h : s.Inv) (hl : s.lc = .ready) (hproto : s.cfg.proto.toNat = p.number) :
    s.ReadyFor p := by
  obtain ⟨q, hq⟩ := h.ready hl
  obtain rfl : p = q := Option.some_inj.mp ((personalityOf_of_number hproto).symm.trans hq.personality_eq)
  exact hq

/-- A constructed channel's configuration meets every check of the table. -/
theorem State.ReadyFor.checkHolds (h : s.ReadyFor p) (k : Nat) : checkHolds k s := by
  have hanswer := checkConfig_answersTheChecks s
  rw [h.config_ok] at hanswer
  exact hanswer k

theorem State.ReadyFor.code_chips (h : s.ReadyFor p) (hd : p.number = 6 ∨ p.number = 7) :
    ∀ c ∈ s.code, c = 0 ∨ c = 1 := by
  rw [← personalityOf_eq_some h.personality_eq] at hd
  exact h.checkHolds 7 hd

/-- The units of a bit personality are the numbers 0 and 1 (R253). -/
theorem State.ReadyFor.ib_bits (h : s.ReadyFor p) (hbit : p.isBit = true) : ∀ b ∈ s.ib, b = 0 ∨ b = 1 := by
  intro b hb
  have hle := (unitsAreBits_iff s.ib).mp (h.bits_only hbit).1 b hb
  bv_omega

end

/-! ## The spreader (R250, R251) -/

theorem spreadBit_one (code : List Byte) : spreadBit code 1 = code :=
  List.map_id'' (fun _ => BitVec.xor_zero) code

theorem spreadBit_zero {code : List Byte} (h : ∀ c ∈ code, c = 0 ∨ c = 1) :
    spreadBit code 0 = code.map (fun c => if c = 1 then 0 else 1) := by
  refine List.map_congr_left fun c hc => ?_
  rcases h c hc with rfl | rfl <;> rfl

/-- The chips of a bit: the code, or its complement. -/
theorem spreadBit_eq_ite {code : List Byte} {b : Byte} (h : ∀ c ∈ code, c = 0 ∨ c = 1) (hb : b = 0 ∨ b = 1) :
    spreadBit code b = if b = 1 then code else code.map (fun c => if c = 1 then 0 else 1) := by
  rcases hb with rfl | rfl
  · exact spreadBit_zero h
  · exact spreadBit_one code

/-- Settles O51: CONSTRUCT checked that the code holds chips, and PUSH that IB holds bits. -/
theorem spreaderEmitsTheCodeOrItsComplement : Obligations.SpreaderEmitsTheCodeOrItsComplement := by
  unfold Obligations.SpreaderEmitsTheCodeOrItsComplement
  intro s hinv hl hproto
  have hs : s.ReadyFor .dsssEnc := hinv.readyFor hl (congrArg BitVec.toNat hproto)
  have hrecords := List.map_congr_left fun b hb =>
    congrArg Record.chips (spreadBit_eq_ite (hs.code_chips (.inl rfl)) (hs.ib_bits rfl b hb))
  refine (execRun_of_ready hl).trans ?_
  rw [State.runProcedure_dsssEnc hs.personality_eq, spreadRun_eq, hrecords]

/-! ## The correlator (R255 to R258) -/

/-- Symbol `k` starts at sample `k * P` of SB. -/
theorem symbolRecords_eq_map (code : List Byte) (S P n : Nat) (sb : List Sample) :
    symbolRecords code S P n sb =
      (List.range n).map (fun k => corrRecord code S ((sb.drop (k * P)).take P)) := by
  induction n generalizing sb with
  | zero => rfl
  | succ n ih =>
    rw [symbolRecords, ih, List.range_succ_eq_map]
    simp [Function.comp_def, List.drop_drop, Nat.succ_mul, Nat.add_comm P]

/-- The sum over the sub-window of one chip, by positions. -/
theorem sum_map_take_drop (comp : Sample → Int) {S base : Nat} {sb : List Sample} (h : base + S ≤ sb.length) :
    (((sb.drop base).take S).map comp).sum =
      ((List.range S).map (fun i => comp (sb.getD (base + i) ⟨0, 0⟩))).sum := by
  congr 1
  refine List.ext_getElem (by simp; omega) fun i hi hi' => ?_
  have hget : base + i < sb.length := by simp at hi; omega
  simp [List.getElem?_eq_getElem hget]

/-- The first chip takes the first `S` samples, the others go on from there. -/
theorem corrSum_cons (comp : Sample → Int) (c : Byte) (cs : List Byte) (S : Nat) (sb : List Sample) (base : Nat) :
    corrSum comp (c :: cs) S sb base =
      antipodal c * ((List.range S).map (fun i => comp (sb.getD (base + i) ⟨0, 0⟩))).sum +
        corrSum comp cs S sb (base + S) := by
  have hindex : ∀ j i, base + (j + 1) * S + i = base + S + j * S + i := fun j i => by ring
  simp only [corrSum, List.length_cons, List.range_succ_eq_map, List.map_cons, List.map_map, List.sum_cons,
    Function.comp_def, List.getD_cons_zero, List.getD_cons_succ, Nat.succ_eq_add_one, Nat.zero_mul, Nat.add_zero,
    hindex, antipodal]

/-- The correlation of the whole symbol period from `base` on is the sum of R255. -/
theorem correlate_eq_corrSum (comp : Sample → Int) {code : List Byte} {S base : Nat} {sb : List Sample}
    (h : base + code.length * S ≤ sb.length) :
    correlate comp S code ((sb.drop base).take (code.length * S)) = corrSum comp code S sb base := by
  induction code generalizing base with
  | nil => rfl
  | cons c cs ih =>
    have hlen : (c :: cs).length * S = S + cs.length * S := by rw [List.length_cons, Nat.succ_mul, Nat.add_comm]
    rw [hlen] at h ⊢
    rw [correlate, corrSum_cons, List.take_take, Nat.min_eq_left (Nat.le_add_right _ _),
      sum_map_take_drop comp (by omega), List.drop_take, List.drop_drop, Nat.add_sub_cancel_left,
      ih (by omega)]

/-- The record of the symbol period from `base` on (R258). -/
theorem corrRecord_eq_corrSums {code : List Byte} {S base : Nat} {sb : List Sample}
    (h : base + code.length * S ≤ sb.length) :
    corrRecord code S ((sb.drop base).take (code.length * S)) =
      .corr (corrSum (fun x => x.i.toInt) code S sb base) (corrSum (fun x => x.q.toInt) code S sb base)
        (code.length * S) := by
  rw [corrRecord, correlate_eq_corrSum _ h, correlate_eq_corrSum _ h]
  rfl

/-- Each of the |SB| / P symbol periods lies whole in SB, so its record holds the sums of R255. -/
theorem symbolRecords_eq_corrSums (code : List Byte) (S : Nat) (sb : List Sample) :
    symbolRecords code S (code.length * S) (sb.length / (code.length * S)) sb =
      (List.range (sb.length / (code.length * S))).map (fun k => Record.corr
        (corrSum (fun x => x.i.toInt) code S sb (k * (code.length * S)))
        (corrSum (fun x => x.q.toInt) code S sb (k * (code.length * S))) (code.length * S)) := by
  rw [symbolRecords_eq_map]
  refine List.map_congr_left fun k hk => corrRecord_eq_corrSums ?_
  rw [← Nat.succ_mul]
  exact (Nat.mul_le_mul_right _ (List.mem_range.mp hk)).trans (Nat.div_mul_le_self _ _)

/-- Settles O52: the update of `correlate_run()`, with its records as the sums of R255. -/
theorem correlatorEmitsOnePerSymbol : Obligations.CorrelatorEmitsOnePerSymbol := by
  unfold Obligations.CorrelatorEmitsOnePerSymbol
  rintro s hinv hl hproto S P n rfl rfl rfl
  have hs : s.ReadyFor .dsssDec := hinv.readyFor hl (congrArg BitVec.toNat hproto)
  refine (execRun_of_ready hl).trans ?_
  rw [State.runProcedure_dsssDec hs.personality_eq, correlateRun_eq, State.symbolPeriod, symbolRecords_eq_corrSums]

/-! ## A bit spread and correlated (R262) -/

/-- Where chip `c` of the code meets `S` equal samples, its sub-window sums to `S` times their component. -/
theorem correlate_flatMap_replicate (comp : Sample → Int) (S : Nat) (f : Byte → Sample) (code : List Byte) :
    correlate comp S code (code.flatMap (fun c => List.replicate S (f c))) =
      (code.map (fun c => antipodal c * (S * comp (f c)))).sum := by
  induction code with
  | nil => rfl
  | cons c cs ih => simp [correlate, ih]

theorem correlate_spread (comp : Sample → Int) (A : Int) (S : Nat) (code : List Byte) (b : Byte) :
    correlate comp S code (modulate A S (spreadBit code b)) =
      (code.map (fun c => antipodal c *
        (S * comp ⟨BitVec.ofInt 12 (A * antipodal (c ^^^ (1 - b))), 0⟩))).sum := by
  rw [modulate, spreadBit, List.flatMap_map]
  exact correlate_flatMap_replicate comp S _ code

/-- A chip of the code and the chip sent for it agree for a 1 and differ for a 0. -/
theorem antipodal_mul_sent {c b : Byte} (hc : c = 0 ∨ c = 1) (hb : b = 0 ∨ b = 1) :
    antipodal c * antipodal (c ^^^ (1 - b)) = antipodal b := by
  rcases hc with rfl | rfl <;> rcases hb with rfl | rfl <;> rfl

theorem antipodal_sent {c b : Byte} (hc : c = 0 ∨ c = 1) (hb : b = 0 ∨ b = 1) :
    antipodal (c ^^^ (1 - b)) = 1 ∨ antipodal (c ^^^ (1 - b)) = -1 := by
  rcases hc with rfl | rfl <;> rcases hb with rfl | rfl <;> decide

/-- An amplitude of 1 to 2047 fits the 12 bits of a component, with either sign. -/
theorem sext12_amplitude {A a : Int} (hpos : 0 < A) (hmax : A ≤ 2047) (ha : a = 1 ∨ a = -1) :
    sext12 (BitVec.ofInt 12 (A * a)) = A * a :=
  BitVec.toInt_ofInt_eq_self (by decide) (by rcases ha with rfl | rfl <;> omega)
    (by rcases ha with rfl | rfl <;> omega)

/-- Settles O53: every chip contributes the same amount, whatever the code. -/
theorem spreadThenCorrelateRecoversTheBit : Obligations.SpreadThenCorrelateRecoversTheBit := by
  unfold Obligations.SpreadThenCorrelateRecoversTheBit
  intro code b A S hcode hb hpos hmax
  have hchip : ∀ c ∈ code, antipodal c * (S * sext12 (BitVec.ofInt 12 (A * antipodal (c ^^^ (1 - b))))) =
      S * A * antipodal b := fun c hc => by
    rw [sext12_amplitude hpos hmax (antipodal_sent (hcode c hc) hb), ← antipodal_mul_sent (hcode c hc) hb]
    ring
  have hnumI : correlate (fun a => sext12 a.i) S code (modulate A S (spreadBit code b)) =
      antipodal b * A * code.length * S := by
    rw [correlate_spread, List.map_congr_left hchip, List.map_const', List.sum_replicate, nsmul_eq_mul]
    ring
  have hnumQ : correlate (fun a => sext12 a.q) S code (modulate A S (spreadBit code b)) = 0 := by
    rw [correlate_spread]
    simp [sext12]
  rw [corrRecord, hnumI, hnumQ]
  rfl

/-! ## Bounds (R259) -/

theorem natAbs_sext12_le (v : BitVec 12) : (sext12 v).natAbs ≤ 2048 := by
  have hlo : -2048 ≤ v.toInt := BitVec.le_toInt v
  have hhi : v.toInt < 2048 := BitVec.toInt_lt
  rw [sext12]
  omega

section
variable {comp : Sample → Int} {bound : Nat} (hcomp : ∀ a, (comp a).natAbs ≤ bound)
include hcomp

theorem natAbs_sum_map_le (xs : List Sample) : (xs.map comp).sum.natAbs ≤ bound * xs.length := by
  induction xs with
  | nil => exact Nat.zero_le _
  | cons a xs ih =>
    rw [List.map_cons, List.sum_cons, List.length_cons, Nat.mul_succ, Nat.add_comm (bound * _)]
    exact (Int.natAbs_add_le _ _).trans (Nat.add_le_add (hcomp a) ih)

/-- A chip changes only the sign of its sub-window's sum, and the sub-windows share the samples out. -/
theorem natAbs_correlate_le (S : Nat) {code : List Byte} (hcode : ∀ c ∈ code, c = 0 ∨ c = 1) (xs : List Sample) :
    (correlate comp S code xs).natAbs ≤ bound * xs.length := by
  induction code generalizing xs with
  | nil => exact Nat.zero_le _
  | cons c cs ih =>
    obtain ⟨hc, hcs⟩ := List.forall_mem_cons.mp hcode
    have hsign : (antipodal c).natAbs = 1 := by rcases hc with rfl | rfl <;> rfl
    calc (correlate comp S (c :: cs) xs).natAbs
        ≤ (antipodal c * ((xs.take S).map comp).sum).natAbs + (correlate comp S cs (xs.drop S)).natAbs :=
          Int.natAbs_add_le _ _
      _ = ((xs.take S).map comp).sum.natAbs + (correlate comp S cs (xs.drop S)).natAbs := by
          rw [Int.natAbs_mul, hsign, Nat.one_mul]
      _ ≤ bound * (xs.take S).length + bound * (xs.drop S).length :=
          Nat.add_le_add (natAbs_sum_map_le hcomp _) (ih hcs _)
      _ = bound * xs.length := by rw [← Nat.mul_add, ← List.length_append, List.take_append_drop]

end

/-- Settles O54: checks 3 and 9 of CONSTRUCT bound P, and check 7 makes the code one of signs. -/
theorem correlationValuesAreBounded : Obligations.CorrelationValuesAreBounded := by
  unfold Obligations.CorrelationValuesAreBounded
  rintro s hinv hl hproto P rfl
  have hp7 : s.cfg.proto.toNat = 7 := congrArg BitVec.toNat hproto
  have hs : s.ReadyFor .dsssDec := hinv.readyFor hl hp7
  have hperiod : s.code.length * s.cfg.dsssSps.toNat ≤ s.cfg.bufcap.toNat := hs.checkHolds 9 hp7
  obtain ⟨-, hbufcap, -⟩ := hs.checkHolds 3
  refine ⟨hperiod, hbufcap, fun x hx => ?_⟩
  have hbound {comp : Sample → Int} (hcomp : ∀ a, (comp a).natAbs ≤ 2048) :
      (correlate comp s.cfg.dsssSps.toNat s.code x).natAbs ≤ 2048 * (s.code.length * s.cfg.dsssSps.toNat) :=
    (natAbs_correlate_le hcomp _ (hs.code_chips (.inr rfl)) x).trans_eq (by rw [hx])
  have hni := hbound fun a => natAbs_sext12_le a.i
  have hnq := hbound fun a => natAbs_sext12_le a.q
  exact ⟨_, _, rfl, hni, hnq, by omega, by omega⟩

end Sys2Proof.Machine
end

section
/-! PROOFS. Where each fault is raised: the illegal words (R270), the table of R271, the input contract (R273) and the
full code (R274); and the channel with nothing at its port (R282, R291). -/

namespace Sys2Proof.Machine

open Sys2Proof.Claims

/-! ## Illegal words (R270) -/

theorem opField_toNat (w : Word) : (opField w).toNat = w.toNat / 2 ^ 28 := by
  rw [opField, BitVec.extractLsb'_toNat, Nat.shiftRight_eq_div_pow]
  omega

theorem regField_toNat (w : Word) : (regField w).toNat = w.toNat / 2 ^ 24 % 16 := by
  rw [regField, BitVec.extractLsb'_toNat, Nat.shiftRight_eq_div_pow]

theorem immField_toNat (w : Word) : (immField w).toNat = w.toNat % 2 ^ 24 := by
  rw [immField, BitVec.extractLsb'_toNat, Nat.shiftRight_zero]

theorem immHigh_toNat (w : Word) : (immHigh w).toNat = (immField w).toNat / 2 ^ 8 := by
  rw [immHigh, immField_toNat, BitVec.extractLsb'_toNat, Nat.shiftRight_eq_div_pow]
  omega

theorem beq_zero_eq_false_iff {n : Nat} (v : BitVec n) : (v == 0) = false ↔ v.toNat ≠ 0 := by
  rw [beq_eq_false_iff_ne, ← BitVec.toNat_ne_iff_ne]
  rfl

theorem requireZero_eq_error {zero : Bool} {op : BitVec 4} {i : Instr} :
    (∃ e, requireZero zero op i = .error e) ↔ zero = false := by
  cases zero <;> simp [requireZero]

/-- A row with two fields that must be 0, by the numbers in them (R84). -/
theorem requireZero_and_eq_error {m n : Nat} {a : BitVec m} {b : BitVec n} {op : BitVec 4} {i : Instr} :
    (∃ e, requireZero (a == 0 && b == 0) op i = .error e) ↔ a.toNat ≠ 0 ∨ b.toNat ≠ 0 := by
  rw [requireZero_eq_error, Bool.and_eq_false_iff, beq_zero_eq_false_iff, beq_zero_eq_false_iff]

/-- The decoder refuses exactly the illegal words, row by row of the opcode map. -/
theorem decode_refuses_iff (w : Word) : (∃ e, decode w = .error e) ↔ illegalWord w.toNat := by
  unfold illegalWord decode
  simp only [← opField_toNat, ← regField_toNat, ← immField_toNat]
  split
  -- NOP, CONSTRUCT, RUN, RESET, CLEAR
  case h_1 hop | h_4 hop | h_7 hop | h_8 hop | h_9 hop =>
    rw [requireZero_and_eq_error]
    simp [hop]
  -- WRCODE, PUSH
  case h_3 hop | h_5 hop =>
    rw [requireZero_and_eq_error, immHigh_toNat]
    simp [hop]
  -- PUSHS
  case h_6 hop =>
    rw [requireZero_eq_error, beq_zero_eq_false_iff]
    simp [hop]
  -- WRCFG
  case h_2 hop =>
    split
    case isTrue hr => simp [hop, show ¬ 5 < (regField w).toNat from Nat.not_lt_of_le hr]
    case isFalse hr => simp [hop, show 5 < (regField w).toNat from Nat.lt_of_not_le hr]
  -- RDREG
  case h_10 hop =>
    split
    case isTrue himm =>
      split
      case isTrue hr => simp [hop, eq_of_beq himm, show ¬ 12 < (regField w).toNat from Nat.not_lt_of_le hr]
      case isFalse hr => simp [hop, show 12 < (regField w).toNat from Nat.lt_of_not_le hr]
    case isFalse himm =>
      have himm : (immField w).toNat ≠ 0 := (beq_zero_eq_false_iff _).mp (Bool.eq_false_iff.mpr himm)
      simp [hop, himm]
  -- the reserved opcodes (R83)
  case h_11 =>
    have hop : 10 ≤ (opField w).toNat := by
      by_contra hlt
      interval_cases (opField w).toNat <;> contradiction
    exact iff_of_true ⟨_, rfl⟩ (.inl hop)

/-! ## The table of R271 -/

/-- The commands of the configuration are allowed wherever the channel is not READY. -/
theorem configurable_iff_ne_ready (l : Lifecycle) : l = .unconfigured ∨ l = .cfgError ↔ l ≠ .ready := by
  cases l <;> decide

/-- From `s` to `t` neither of the two bits was set that the word and the table answer for (R270, R271). -/
structure State.NoCommandFault (s t : State) : Prop where
  illegalCmd : t.sticky.illegalCmd = true → s.sticky.illegalCmd = true
  seqErr : t.sticky.seqErr = true → s.sticky.seqErr = true

theorem State.NoCommandFault.of_sticky {s t : State} (h : t.sticky = s.sticky) : s.NoCommandFault t :=
  ⟨fun ht => h ▸ ht, fun ht => h ▸ ht⟩

theorem State.NoCommandFault.raise_inputErr (s : State) : s.NoCommandFault (s.raise .inputErr) := ⟨id, id⟩

theorem State.NoCommandFault.raise_codeOvf (s : State) : s.NoCommandFault (s.raise .codeOvf) := ⟨id, id⟩

theorem State.NoCommandFault.toReset (s : State) : s.NoCommandFault s.toReset := ⟨nofun, nofun⟩

/-- What the table of R271 decides for a well-formed command: SEQ_ERR and nothing else, or an outcome that raises
neither SEQ_ERR nor ILLEGAL_CMD. -/
theorem exec_by_table {i : Instr} (hi : i.WellFormed) (s : State) :
    (¬ allowed i s ∧ exec i s = .next (s.raise .seqErr)) ∨
    (allowed i s ∧ ∃ t, exec i s = .next t ∧ s.NoCommandFault t) := by
  have hconf := configurable_iff_ne_ready s.lc
  cases i with
  | nop => exact .inr ⟨trivial, s, rfl, .of_sticky rfl⟩
  | clear => exact .inr ⟨trivial, s.toReset, rfl, .toReset s⟩
  | wrcfg r v =>
    rcases execWrcfg_cases r v s with ⟨hr, -⟩ | ⟨-, hl, he⟩ | ⟨-, hl, he⟩
    · exact absurd (of_decide_eq_true hi) (Nat.not_le_of_lt hr)
    · exact .inl ⟨fun h => hconf.mp h hl, he⟩
    · exact .inr ⟨hconf.mpr hl, _, he, .of_sticky rfl⟩
  | wrcode c =>
    rcases execWrcode_cases c s with ⟨hl, he⟩ | ⟨hl, -, he⟩ | ⟨hl, -, he⟩
    · exact .inl ⟨fun h => hconf.mp h hl, he⟩
    · exact .inr ⟨hconf.mpr hl, _, he, .raise_codeOvf s⟩
    · exact .inr ⟨hconf.mpr hl, _, he, .of_sticky rfl⟩
  | construct =>
    rcases execConstruct_cases s with ⟨hl, he⟩ | ⟨hl, p, -, he⟩ | ⟨hl, e, -, he⟩
    · exact .inl ⟨fun h => hconf.mp h hl, he⟩
    · exact .inr ⟨hconf.mpr hl, _, he, .of_sticky rfl⟩
    · exact .inr ⟨hconf.mpr hl, _, he, .of_sticky rfl⟩
  | push u =>
    rcases execPush_cases u s with ⟨h, he⟩ | ⟨hl, hp, -, he⟩ | ⟨hl, hp, -, he⟩
    · exact .inl ⟨fun ⟨hl, hp⟩ => h.elim (absurd hl) (absurd · hp), he⟩
    · exact .inr ⟨⟨hl, hp⟩, _, he, .raise_inputErr s⟩
    · exact .inr ⟨⟨hl, hp⟩, _, he, .of_sticky rfl⟩
  | pushs i q =>
    rcases execPushs_cases i q s with ⟨h, he⟩ | ⟨hl, hp, he⟩
    · exact .inl ⟨fun ⟨hl, hp⟩ => h.elim (absurd hl) (absurd hp), he⟩
    · exact .inr ⟨⟨hl, hp⟩, _, he, .of_sticky rfl⟩
  | run =>
    rcases execRun_cases s with ⟨hl, he⟩ | ⟨hl, he⟩
    · exact .inr ⟨hl, _, he, .of_sticky s.runProcedure_frame.sticky⟩
    · exact .inl ⟨hl, he⟩
  | reset =>
    rcases execReset_cases s with ⟨hl, he⟩ | ⟨hl, he⟩
    · exact .inr ⟨hl, _, he, .of_sticky rfl⟩
    · exact .inl ⟨hl, he⟩
  | rdreg r =>
    exact .inr ⟨trivial, _, execRdreg_of_legal (of_decide_eq_true hi) s, .of_sticky rfl⟩

/-- A well-formed command never raises ILLEGAL_CMD. -/
theorem illegalCmd_of_exec {i : Instr} (hi : i.WellFormed) {s t : State} (h : exec i s = .next t)
    (ht : t.sticky.illegalCmd = true) : s.sticky.illegalCmd = true := by
  rcases exec_by_table hi s with ⟨-, he⟩ | ⟨-, u, he, hu⟩ <;> cases he.symm.trans h
  exacts [ht, hu.illegalCmd ht]

/-- Settles O18: the two sides of the table. -/
theorem seqErrExactlyByTheTable : Obligations.SeqErrExactlyByTheTable := by
  unfold Obligations.SeqErrExactlyByTheTable
  intro i s hi
  rcases exec_by_table hi s with ⟨hno, he⟩ | ⟨hyes, t, he, ht⟩
  · exact ⟨fun _ => he, fun hyes => absurd hyes hno⟩
  · refine ⟨fun hno => absurd hyes hno, fun _ t' h => ?_⟩
    cases he.symm.trans h
    exact ht.seqErr

/-- Settles O8: the words the decoder refuses are the illegal ones, and the others are words of well-formed commands. -/
theorem illegalCommandExactly : Obligations.IllegalCommandExactly := by
  unfold Obligations.IllegalCommandExactly
  intro s w
  refine ⟨fun hw => ?_, fun hw => ?_⟩
  · obtain ⟨e, he⟩ := (decode_refuses_iff w).mpr hw
    exact runWord_of_illegal he s
  · cases hdec : decode w with
    | error e => exact absurd ((decode_refuses_iff w).mp ⟨e, hdec⟩) hw
    | ok i =>
      obtain ⟨hi, henc⟩ := decodedWordIsTheEncoding w i hdec
      have hrun := runWord_of_decode hdec s
      exact ⟨⟨i, hi, henc, hrun⟩, fun t ht => illegalCmd_of_exec hi (hrun.symm.trans ht)⟩

/-! ## The input contract and the full code (R273, R274) -/

/-- Settles O19: a bad unit is one above 1 in PROTO 5 or 6, and PUSHS has no check of its sample. -/
theorem inputErrOnlyForBitPersonalities : Obligations.InputErrOnlyForBitPersonalities := by
  unfold Obligations.InputErrOnlyForBitPersonalities
  refine ⟨fun u s => ?_, fun u s t h5 h6 h => ?_, fun i q s t h => ?_⟩
  · obtain ⟨-, hbad, -⟩ := pushAppendsUnderTheCap u s
    exact hbad
  · rcases execPush_cases u s with ⟨-, he⟩ | ⟨-, -, hbad, -⟩ | ⟨-, -, -, he⟩
    · cases he.symm.trans h
      rfl
    · obtain ⟨hp, -⟩ := (s.badUnit_iff_proto u).mp hbad
      exact absurd hp (not_or_intro h5 h6)
    · cases he.symm.trans h
      rfl
  · rcases execPushs_cases i q s with ⟨-, he⟩ | ⟨-, -, he⟩ <;> cases he.symm.trans h <;> rfl

/-- Settles O14: the two checks of WRCODE in their order, then the append. -/
theorem wrcodeAppendsAChip : Obligations.WrcodeAppendsAChip := by
  unfold Obligations.WrcodeAppendsAChip
  intro c s
  rcases execWrcode_cases c s with ⟨hl, he⟩ | ⟨hl, hc, he⟩ | ⟨hl, hc, he⟩
  · exact ⟨fun _ => he, fun hl' => absurd hl hl', fun hl' => absurd hl hl'⟩
  · exact ⟨fun hl' => absurd hl' hl, fun _ _ => he, fun _ hc' => absurd hc hc'⟩
  · exact ⟨fun hl' => absurd hl' hl, fun _ hc' => absurd hc' hc, fun _ _ => he⟩

/-! ## The idle channel (R282, R291) -/

/-- Settles O6: a step takes the oldest event, and there is none. -/
theorem idleChannelHoldsItsState : Obligations.IdleChannelHoldsItsState := by
  unfold Obligations.IdleChannelHoldsItsState
  exact fun s hport => step_of_empty_port hport

end Sys2Proof.Machine
end

section
/-! PROOFS. The boot sequence (R293): what its commands do to a channel with no fault raised, and the example of R295. -/

namespace Sys2Proof.Machine

/-! ## One command of a sequence (R70) -/

theorem runWords_cons_of_exec {w : Word} {i : Instr} {ws : List Word} {s t : State} (hdec : decode w = .ok i)
    (hexec : exec i s = .next t) : runWords (w :: ws) s = runWords ws t :=
  runWords_cons_of_next ((runWord_of_decode hdec s).trans hexec)

theorem execWrcfg_of_configurable {r : BitVec 4} {s : State} (hr : r.toNat ≤ 5) (hl : s.lc ≠ .ready) (v : BitVec 24) :
    execWrcfg r v s = .next (s.writeCfg r.toNat v) := by
  rcases execWrcfg_cases r v s with ⟨hr', -⟩ | ⟨-, hl', -⟩ | ⟨-, -, he⟩
  · omega
  · exact absurd hl' hl
  · exact he

theorem execConstruct_of_refused {s : State} {e : ErrCode} (hl : s.lc ≠ .ready)
    (hc : checkConfig s.cfg s.code = .error e) : execConstruct s = .next (s.constructFailed e) := by
  rcases execConstruct_cases s with ⟨hl', -⟩ | ⟨-, p, hp, -⟩ | ⟨-, e', he', he⟩
  · exact absurd hl' hl
  · cases hc.symm.trans hp
  · cases hc.symm.trans he'
    exact he

/-! ## STATUS with no fault raised (R30) -/

theorem State.status_of_ready {s : State} (hl : s.lc = .ready) (hf : s.sticky = Sticky.clear) : s.status = 1 := by
  apply BitVec.eq_of_toNat_eq
  simp [State.status_toNat, hl, hf, Sticky.clear]

theorem State.status_of_cfgError {s : State} (hl : s.lc = .cfgError) (hf : s.sticky = Sticky.clear) : s.status = 2 := by
  apply BitVec.eq_of_toNat_eq
  simp [State.status_toNat, hl, hf, Sticky.clear]

/-! ## The stages of the boot sequence (R293) -/

/-- CLEAR, then WRCFG PROTO, POCSAG: steps 1 and 2. -/
theorem runWords_clear_selectPocsag (ws : List Word) (s : State) :
    runWords (0x80000000 :: 0x10000005 :: ws) s = runWords ws (s.toReset.writeCfg 0 5) := by
  have hl : s.toReset.lc ≠ .ready := nofun
  calc runWords (0x80000000 :: 0x10000005 :: ws) s
      = runWords (0x10000005 :: ws) s.toReset := runWords_cons_of_exec (i := .clear) rfl rfl
    _ = runWords ws (s.toReset.writeCfg 0 5) :=
        runWords_cons_of_exec (i := .wrcfg 0 5) rfl (execWrcfg_of_configurable (by decide) hl 5)

/-- WRCFG POCSAG_BAUD, 1200: step 3. -/
theorem runWords_writeBaud (ws : List Word) {s : State} (hl : s.lc ≠ .ready) :
    runWords (0x140004B0 :: ws) s = runWords ws (s.writeCfg 4 1200) :=
  runWords_cons_of_exec (i := .wrcfg 4 1200) rfl (execWrcfg_of_configurable (by decide) hl 1200)

/-- RDREG STATUS: step 6. -/
theorem runWords_readStatus (s : State) : runWords [0x97000000] s = .next (s.setRdata (s.status.setWidth 32)) :=
  runWords_cons_of_exec (i := .rdreg 7) rfl (execRdreg_of_legal (by decide) s)

section
variable {s : State} (hl : s.lc ≠ .ready) (hf : s.sticky = Sticky.clear)
include hl hf

/-- CONSTRUCT and RDREG STATUS, steps 5 and 6, where the checks accept. -/
theorem runWords_construct_of_accepted {p : Personality} (hc : checkConfig s.cfg s.code = .ok p) :
    runWords [0x30000000, 0x97000000] s = .next ((s.construct p).setRdata 1) := by
  rw [runWords_cons_of_exec (i := .construct) rfl (execConstruct_of_accepted hl hc), runWords_readStatus,
    State.status_of_ready (s := s.construct p) rfl hf]
  rfl

/-- CONSTRUCT and RDREG STATUS, steps 5 and 6, where a check fails. -/
theorem runWords_construct_of_refused {e : ErrCode} (hc : checkConfig s.cfg s.code = .error e) :
    runWords [0x30000000, 0x97000000] s = .next ((s.constructFailed e).setRdata 2) := by
  rw [runWords_cons_of_exec (i := .construct) rfl (execConstruct_of_refused hl hc), runWords_readStatus,
    State.status_of_cfgError (s := s.constructFailed e) rfl hf]
  rfl

end

/-! ## The example (R295) -/

/-- The channel of the example before CONSTRUCT, without the POCSAG_BAUD write. -/
def bootWithoutBaud : State := State.reset.toReset.writeCfg 0 5

/-- The channel of the example before CONSTRUCT. -/
def bootWithBaud : State := bootWithoutBaud.writeCfg 4 1200

theorem bootWithoutBaud_lc : bootWithoutBaud.lc ≠ .ready := nofun

theorem bootWithBaud_lc : bootWithBaud.lc ≠ .ready := bootWithoutBaud_lc

/-- With a rate written, every check of R114 holds. -/
theorem checkConfig_bootWithBaud : checkConfig bootWithBaud.cfg bootWithBaud.code = .ok .pocsag := rfl

/-- The reset value of POCSAG_BAUD is no rate, so check 5 is the first to fail. -/
theorem checkConfig_bootWithoutBaud :
    checkConfig bootWithoutBaud.cfg bootWithoutBaud.code = .error .baudInvalid := rfl

/-- Settles O11: CONSTRUCT accepts the configuration with the rate, and refuses the one without it. -/
theorem bootExampleReachesReady : Obligations.BootExampleReachesReady := by
  unfold Obligations.BootExampleReachesReady
  constructor
  · refine ⟨(bootWithBaud.construct .pocsag).setRdata 1, ?_, rfl, rfl, mem_stateCodes .syncSearch, rfl, rfl⟩
    calc runWords [0x80000000, 0x10000005, 0x140004B0, 0x30000000, 0x97000000] State.reset
        = runWords [0x140004B0, 0x30000000, 0x97000000] bootWithoutBaud := runWords_clear_selectPocsag _ _
      _ = runWords [0x30000000, 0x97000000] bootWithBaud := runWords_writeBaud _ bootWithoutBaud_lc
      _ = .next ((bootWithBaud.construct .pocsag).setRdata 1) :=
          runWords_construct_of_accepted bootWithBaud_lc rfl checkConfig_bootWithBaud
  · refine ⟨(bootWithoutBaud.constructFailed .baudInvalid).setRdata 2, ?_, rfl, errCodes_getElem_code .baudInvalid⟩
    calc runWords [0x80000000, 0x10000005, 0x30000000, 0x97000000] State.reset
        = runWords [0x30000000, 0x97000000] bootWithoutBaud := runWords_clear_selectPocsag _ _
      _ = .next ((bootWithoutBaud.constructFailed .baudInvalid).setRdata 2) :=
          runWords_construct_of_refused bootWithoutBaud_lc rfl checkConfig_bootWithoutBaud

end Sys2Proof.Machine
end
